-- ==== Sys2Proof/Word.lean ====
section
/-! DEFINITION. The byte type and the fixed sizes of the block (spec/00_scope.md R6). -/

namespace Sys2Proof

/-- One byte; bit 7 is the most significant (R11). -/
abbrev Byte := BitVec 8

/-- The 16-byte message as the `message` port carries it: byte 0 in bits 127:120 (R65). -/
abbrev Message := BitVec 128

/-- `CATALOG_SIZE` (R6). -/
abbrev catalogSize : Nat := 9

/-- `POOL_SIZE` (R6). -/
abbrev poolSize : Nat := 31

/-- `MSG_BYTES` (R6). -/
abbrev msgBytes : Nat := 16

/-- `MSG_BITS` (R6). -/
abbrev msgBits : Nat := 128

/-- `SYM_LEN_MIN` (R6). -/
abbrev symLenMin : Nat := 1

/-- `SYM_LEN_MAX` (R6, and C1 for the "2-9" it overrules). -/
abbrev symLenMax : Nat := 8

end Sys2Proof
end

