-- ==== Sys2Proof/Syntax.lean ====
section
/-! DEFINITION. The data formats of spec/30_encoding.md (descriptor, port sample), the open parameters of R6,
and the operations: one constructor of `Instr` per row of spec/opcode_table.json. -/

namespace Sys2Proof

/-- A protocol descriptor, a record of seven numbers (R57): two symbols (length, MSB-aligned pattern), the preamble
window (offset, length) and the tick period. -/
structure Descriptor where
  zeroLen : BitVec 4
  zeroPat : Byte
  oneLen : BitVec 4
  onePat : Byte
  preOff : BitVec 5
  preLen : BitVec 5
  tickPeriod : Nat
  deriving DecidableEq, Repr

/-- "No descriptor loaded" as the spec represents it, a descriptor of all zeros (R32). -/
def Descriptor.blank : Descriptor := ⟨0, 0, 0, 0, 0, 0, 0⟩

/-- The open parameters `TICK_W`, `CATALOG` and `POOL` (R6). -/
structure Parameters where
  tickW : Nat
  catalog : List Descriptor
  pool : List Byte
  deriving DecidableEq, Repr

/-- The input ports as one step samples them (R63, R65): the assumed reset input, the command and its operands. -/
structure PortSample where
  reset : Bool
  cmd : BitVec 2
  protocolIndex : Byte
  bitLength : Byte
  message : Message
  deriving DecidableEq, Repr

/-- The operations, in the order of spec/opcode_table.json (R72). -/
inductive Instr where
  | nop
  | start (protocolIndex : Byte) (message : Message) (bitLength : Byte)
  | work
  | workW1
  | workW2
  | workW3
  | workW4
  | workW5
  | workW6
  | take
  | ready
  | done
  | descriptorFor (index : Byte)
  deriving DecidableEq, Repr

end Sys2Proof
end

