-- ==== Sys2Proof/WellFormed.lean ====
section
/-! DEFINITION. Well-formedness: of an operation as a command of the port (R63), and of a configuration, clause by
clause (R7). -/

namespace Sys2Proof

/-- The operations that are themselves a code point of `cmd` (R63): the six actions are selected by the state, the
status reads are outputs, and the lookup is evaluated inside START. No operand value is illegal (R68). -/
def Instr.wellFormed : Instr → Bool
  | .nop => true
  | .start _ _ _ => true
  | .work => true
  | .workW1 => false
  | .workW2 => false
  | .workW3 => false
  | .workW4 => false
  | .workW5 => false
  | .workW6 => false
  | .take => true
  | .ready => false
  | .done => false
  | .descriptorFor _ => false

/-- R7 clause (c) for one symbol length. -/
def symbolLengthOk (len : BitVec 4) : Bool :=
  symLenMin ≤ len.toNat && len.toNat ≤ symLenMax

/-- R7 clause (e) for two descriptors: their non-empty windows do not overlap. -/
def windowsDisjoint (a b : Descriptor) : Bool :=
  a.preLen == 0 || b.preLen == 0 ||
    a.preOff.toNat + a.preLen.toNat ≤ b.preOff.toNat || b.preOff.toNat + b.preLen.toNat ≤ a.preOff.toNat

/-- R7 clause (a): nine descriptors. -/
def Parameters.catalogSizeOk (c : Parameters) : Bool := c.catalog.length == catalogSize

/-- R7 clause (b): 31 pool bytes. -/
def Parameters.poolSizeOk (c : Parameters) : Bool := c.pool.length == poolSize

/-- R7 clause (c): every symbol length is in 1..8. -/
def Parameters.symbolsOk (c : Parameters) : Bool :=
  c.catalog.all fun d => symbolLengthOk d.zeroLen && symbolLengthOk d.oneLen

/-- R7 clause (d): every preamble window lies in the pool. -/
def Parameters.windowsInPool (c : Parameters) : Bool :=
  c.catalog.all fun d => d.preOff.toNat + d.preLen.toNat ≤ poolSize

/-- R7 clause (e): the windows are disjoint. -/
def Parameters.windowsOk (c : Parameters) : Bool :=
  decide (c.catalog.Pairwise fun a b => windowsDisjoint a b = true)

/-- R7 clause (f): every tick period fits `TICK_W` bits; patterns and pool bytes are bytes by their type. -/
def Parameters.ticksOk (c : Parameters) : Bool :=
  c.catalog.all fun d => d.tickPeriod < 2 ^ c.tickW

/-- `WF(CATALOG, POOL)` (R7). -/
def Parameters.wf (c : Parameters) : Bool :=
  c.catalogSizeOk && c.poolSizeOk && c.symbolsOk && c.windowsInPool && c.windowsOk && c.ticksOk

end Sys2Proof
end

