-- ==== Sys2Proof/Config.lean ====
section
/-! DEFINITION. What the spec leaves open. The catalog, the pool and the tick width are absent from the source (N1, N3),
so the machine runs on an opaque device of which Lean knows only that it is well formed; the message buffer's contents
after the reset input are free too (R32). -/

namespace Sys2Proof

/-- The made-up test configuration of spec/95_test_vectors.md section 0, NOT the device's: it shows that well-formed
configurations exist, and the tests use it. No statement about the machine rests on its values. -/
def Parameters.sample : Parameters where
  tickW := 8
  catalog :=
    [⟨4, 0x30, 4, 0xC0, 0, 2, 0x40⟩, ⟨1, 0x00, 1, 0x80, 2, 3, 0x20⟩, ⟨2, 0x40, 2, 0x80, 5, 1, 0x20⟩,
     ⟨3, 0x80, 3, 0xC0, 6, 0, 0x10⟩, ⟨8, 0x80, 8, 0xF0, 6, 4, 0x80⟩, ⟨2, 0x80, 4, 0xC0, 10, 10, 0x64⟩,
     ⟨4, 0x80, 4, 0xE0, 20, 2, 0x40⟩, ⟨5, 0x80, 7, 0xF8, 22, 5, 0xC8⟩, ⟨3, 0x20, 6, 0x1C, 27, 4, 0x64⟩]
  pool :=
    [0xAA, 0x55, 0xFF, 0x00, 0xFF, 0xF0, 0x01, 0x02, 0x04, 0x08,
     0xA0, 0xA1, 0xA2, 0xA3, 0xA4, 0xA5, 0xA6, 0xA7, 0xA8, 0xA9,
     0x55, 0xAA, 0x80, 0x40, 0x20, 0x10, 0x08, 0xDE, 0xAD, 0xBE, 0xEF]

/-- A configuration together with the proof that it is well formed: an ill-formed one is refused, that is, cannot be
built (R7). The default values only show that the type is inhabited. -/
structure Config.Device where
  params : Parameters := Parameters.sample
  wf : params.wf = true := by decide
  deriving Inhabited

/-- The device's configuration, OPEN (R6, D15, D16): nothing but its well-formedness can be proved of it (log entry 7). -/
opaque Config.device : Config.Device

/-- Free value: the contents of `MSG` after the n-th assertion of the reset input, which R32 leaves unspecified
(log entry 6). -/
opaque Config.msgAtReset : Nat → Message

end Sys2Proof
end

