-- ==== Sys2Proof/Decode.lean ====
section
/-! DEFINITION. The command port (spec/30_encoding.md R63, R65): the port word, the decoder (total: every bit pattern is
legal, R68), then the encoder. -/

namespace Sys2Proof

/-- Width of the port word `reset ++ message ++ bit_length ++ protocol_index ++ cmd` (log entry 1). -/
abbrev portBits : Nat := 147

/-- The ports a port word stands for: `cmd` in bits 1:0 as spec/opcode_table.json numbers them, the operand ports above. -/
def PortSample.ofWord (w : BitVec portBits) : PortSample where
  cmd := w.extractLsb' 0 2
  protocolIndex := w.extractLsb' 2 8
  bitLength := w.extractLsb' 10 8
  message := w.extractLsb' 18 128
  reset := w.getLsbD 146

/-- The port word of a sample. -/
def PortSample.toWord (p : PortSample) : BitVec portBits :=
  BitVec.ofBool p.reset ++ p.message ++ p.bitLength ++ p.protocolIndex ++ p.cmd

/-- The ports in a step in which neither caller invokes the block (R106, D22). -/
def PortSample.idle : PortSample := ⟨false, 0b00#2, 0, 0, 0⟩

/-- The command a port sample presents (R63). Operand inputs are ignored unless `cmd` is START (R65). -/
def decode (p : PortSample) : Instr :=
  if p.cmd = 0b00#2 then .nop
  else if p.cmd = 0b01#2 then .start p.protocolIndex p.message p.bitLength
  else if p.cmd = 0b10#2 then .work
  else .take

/-- Decode a whole port word. -/
def decodeWord (w : BitVec portBits) : Instr := decode (PortSample.ofWord w)

/-- The port word of which the opcode table gives the low `nbits` bits, every other bit 0. -/
def tableWord (nbits w : Nat) : BitVec portBits := BitVec.ofNat portBits (w % 2 ^ nbits)

/-- The decoder on a word numbered as spec/opcode_table.json numbers it; no word is refused (R68). -/
def decodeTableWord (nbits w : Nat) : Option Instr := some (decodeWord (tableWord nbits w))

/-- The `cmd` value of an operation's row (R63, R72). The actions have WORK's code and the lookup START's; a status read
is readable whatever `cmd` is, and the idle code stands for it here (log entry 13). -/
def Instr.code : Instr → BitVec 2
  | .nop => 0b00
  | .start _ _ _ => 0b01
  | .work => 0b10
  | .workW1 => 0b10
  | .workW2 => 0b10
  | .workW3 => 0b10
  | .workW4 => 0b10
  | .workW5 => 0b10
  | .workW6 => 0b10
  | .take => 0b11
  | .ready => 0b00
  | .done => 0b00
  | .descriptorFor _ => 0b01

/-- The ports that present an operation; operand inputs an operation does not use are 0. -/
def encode : Instr → PortSample
  | .start p m n => ⟨false, Instr.code (.start p m n), p, n, m⟩
  | .descriptorFor i => ⟨false, Instr.code (.descriptorFor i), i, 0, 0⟩
  | .nop => ⟨false, Instr.code .nop, 0, 0, 0⟩
  | .work => ⟨false, Instr.code .work, 0, 0, 0⟩
  | .workW1 => ⟨false, Instr.code .workW1, 0, 0, 0⟩
  | .workW2 => ⟨false, Instr.code .workW2, 0, 0, 0⟩
  | .workW3 => ⟨false, Instr.code .workW3, 0, 0, 0⟩
  | .workW4 => ⟨false, Instr.code .workW4, 0, 0, 0⟩
  | .workW5 => ⟨false, Instr.code .workW5, 0, 0, 0⟩
  | .workW6 => ⟨false, Instr.code .workW6, 0, 0, 0⟩
  | .take => ⟨false, Instr.code .take, 0, 0, 0⟩
  | .ready => ⟨false, Instr.code .ready, 0, 0, 0⟩
  | .done => ⟨false, Instr.code .done, 0, 0, 0⟩

/-- The port word of an operation. -/
def encodeWord (i : Instr) : BitVec portBits := (encode i).toWord

/-- The command the port carries for an operation (R63): an action is selected inside WORK, a status read accompanies
an idle step, the lookup is made by a START of that selector. -/
def Instr.onPort : Instr → Instr
  | .nop => .nop
  | .start p m n => .start p m n
  | .work => .work
  | .workW1 => .work
  | .workW2 => .work
  | .workW3 => .work
  | .workW4 => .work
  | .workW5 => .work
  | .workW6 => .work
  | .take => .take
  | .ready => .nop
  | .done => .nop
  | .descriptorFor i => .start i 0 0

end Sys2Proof
end

