-- ==== Sys2Proof/Machine/State.lean ====
section
/-! DEFINITION. The state of the block (spec/10_state.md R13, R14), the model faults (R122, R127), the run record (R10)
and the state right after reset (R32). -/

namespace Sys2Proof.Machine

/-- The `MSG` space (R43) as address and byte pairs in one canonical form (`Memory.wf` in Ops.lean). -/
abbrev Memory := List Host.Cell

/-- The model faults of R122, recorded as a sticky mark in `State.fault` (R127). No step ends in one: the operation that
breaks the contract still has its whole effect (R11, R131). -/
inductive Fault where
  /-- Code 1, recorded by `TAKE` when `NEEDED != 0`, with that value of `NEEDED` (R128). Safe: a run that carries the
  mark supports no claim. -/
  | underrun (needed : BitVec 4)
  /-- Code 2, recorded by `START` when `INFLIGHT` is set, with the offending selector (R85, R124). Safe: as above. -/
  | startWhileBusy (protocolIndex : Byte)
  /-- Code 3, for models that make `MSG` separately writable (R125). Nobody raises it here: START alone writes `MSG`
  (R55), so the clause cannot be broken. Safe. -/
  | messageChanged
  deriving DecidableEq, Repr

/-- Why an operation would have no meaning. -/
inductive Refusal where
  /-- Raised by an arm of `exec` whose instruction has no meaning yet; no arm raises it. Safe. -/
  | notModelled (mnemonic : String)
  deriving DecidableEq, Repr

/-- What a caller observes of a run (R10): the values operations return, and the model event `Complete` (R107). -/
inductive Event where
  | tick (period : Nat)
  | byte (value : Byte) (done : Bool)
  | complete
  | ready (level : Bool)
  | done (level : Bool)
  | descriptor (d : Descriptor)
  deriving DecidableEq, Repr

/-- The six actions of a work step (R88). -/
inductive Action where
  | w1
  | w2
  | w3
  | w4
  | w5
  | w6
  deriving DecidableEq, Repr

/-- The phase view of the registers (R25). -/
inductive Phase where
  | preamble
  | payload
  | flush
  | done
  deriving DecidableEq, Repr

/-- The registers of R14 under the spec's names; `MSG` (R29), `TICK` (R23) and the ghost bit `INFLIGHT` (R30); the run
record; and the model's own two fields. -/
@[ext]
structure State where
  zlen : BitVec 4
  zpat : Byte
  olen : BitVec 4
  opat : Byte
  pcur : BitVec 5
  prem : BitVec 5
  alen : BitVec 5
  apat : Byte
  mbyte : BitVec 5
  mbit : BitVec 8
  msr : Byte
  out : Byte
  needed : BitVec 4
  bitlen : BitVec 8
  tick : Nat
  msg : Memory
  inflight : Bool
  /-- The sticky fault mark of the run record (R127). -/
  fault : Option Fault
  /-- What has been observed so far, newest first (R10). -/
  trace : List Event
  /-- The model's own: the port samples the environment has yet to present, next first (R9, log entry 2). -/
  input : List PortSample
  /-- The model's own: how often the reset input was asserted; it selects `Config.msgAtReset` (log entry 6). -/
  resets : Nat
  deriving DecidableEq, Repr

/-- The machine right after reset (R32, R137): every register 0, nothing observed, nothing presented. `MSG` is unspecified
there; it lists nothing (log entry 3). -/
def State.reset : State where
  zlen := 0
  zpat := 0
  olen := 0
  opat := 0
  pcur := 0
  prem := 0
  alen := 0
  apat := 0
  mbyte := 0
  mbit := 0
  msr := 0
  out := 0
  needed := 0
  bitlen := 0
  tick := 0
  msg := []
  inflight := false
  fault := none
  trace := []
  input := []
  resets := 0

end Sys2Proof.Machine
end

