-- ==== Sys2Proof/Machine/Flags.lean ====
section
/-! DEFINITION. The derived flags and outputs (spec/10_state.md R24, R27, R28; R65) and the phase (R25). -/

namespace Sys2Proof.Machine

/-- The `ready` output, `NEEDED == 0` (R27, R104). -/
def readyFlag (s : State) : Bool := s.needed == 0

/-- The done sentinel, `ZLEN == 0` (R27). -/
def doneSentinel (s : State) : Bool := s.zlen == 0

/-- The `done` output, `OLEN == 0` (R24, R105). -/
def doneFlag (s : State) : Bool := s.olen == 0

/-- The `out_byte` output (R65). -/
def outBytePort (s : State) : Byte := s.out

/-- The `tick_period` output (R23, R65). -/
def tickPeriodPort (s : State) : Nat := s.tick

/-- The phase (R25). -/
def phase (s : State) : Phase :=
  if s.prem != 0 then .preamble
  else if !doneSentinel s then .payload
  else if !doneFlag s then .flush
  else .done

/-- The order in which the phases of a transmission occur (R25). -/
def phaseRank : Phase → Nat
  | .preamble => 0
  | .payload => 1
  | .flush => 2
  | .done => 3

end Sys2Proof.Machine
end

