-- ==== Sys2Proof/Machine/Operands.lean ====
section
/-! DEFINITION. Operand assembly (spec/30_encoding.md R67) and the few bit operations of the block (R98). -/

namespace Sys2Proof.Machine

/-- R67 (a): `protocol_index mod CATALOG_SIZE` on the unsigned 8-bit value (D23). -/
def selectorIndex (protocolIndex : Byte) : Nat := protocolIndex.toNat % catalogSize

/-- R67 (b): `min(bit_length, MSG_BITS)` (R80, D6). -/
def clampLength (bitLength : Byte) : BitVec 8 :=
  if bitLength.toNat ≤ msgBits then bitLength else 128#8

/-- R67 (c): a symbol length zero-extended into the active count. -/
def symbolCount (len : BitVec 4) : BitVec 5 := len.setWidth 5

/-- R67 (d): the flush length `zext_5(NEEDED) + 8` (R95). -/
def flushCount (needed : BitVec 4) : BitVec 5 := needed.setWidth 5 + 8#5

/-- `v[7]`, the bit that leaves first (R45). -/
def topBit (v : Byte) : Bool := v.getLsbD 7

/-- `{ v[6:0], b }`, a left shift by one with `b` entering at bit 0 (R93, R96). -/
def shiftIn (v : Byte) (b : Bool) : Byte := (v.extractLsb' 0 7).concat b

/-- `MBIT[2:0] == 0`, the one alignment test of the block (R46, R96). -/
def byteAligned (mbit : BitVec 8) : Bool := mbit.extractLsb' 0 3 == 0

/-- Byte `i` of a message: byte 0 is in port bits 127:120 (R65). -/
def messageByte (m : Message) (i : Nat) : Byte := m.extractLsb' (120 - 8 * i) 8

/-- Message bit `k`, bit `127 - k` of the port (R12, R65). -/
def messageBit (m : Message) (k : Nat) : Bool := m.getLsbD (127 - k)

end Sys2Proof.Machine
end

