-- ==== Sys2Proof/Machine/Ops.lean ====
section
/-! DEFINITION. The named operations over `MSG`, `POOL` and the run record, sampling the ports, and the reset input. -/

namespace Sys2Proof.Machine

/-- What an unlisted `MSG` address reads as (log entry 3). -/
def Memory.unlisted : Byte := 0x00

/-- The canonical form of `MSG`: addresses strictly rising and below 16, no entry equal to what an unlisted address
reads as. -/
abbrev Memory.wf (m : Memory) : Prop :=
  m.Pairwise (fun a b => a.1 < b.1) ∧ ∀ c ∈ m, c.1 < msgBytes ∧ c.2 ≠ Memory.unlisted

/-- `MSG[a]` (R43). Addresses 16 and up do not exist and are never read in a reachable state (R56, log entry 8). -/
def Memory.read (m : Memory) (a : Nat) : Byte := (m.lookup a).getD Memory.unlisted

/-- `MSG` with all 16 cells written from the `message` operand (R82; R47: the write moves all 16 bytes). -/
def Memory.ofMessage (msg : Message) : Memory :=
  (List.range msgBytes).filterMap fun i =>
    if messageByte msg i = Memory.unlisted then none else some (i, messageByte msg i)

/-- `POOL[i]` (R42); the default is unreachable in a well-formed configuration (R56). -/
def poolRead (c : Parameters) (i : BitVec 5) : Byte := c.pool.getD i.toNat 0

/-- The code of a model fault (R122). -/
def Fault.code : Fault → Nat
  | .underrun _ => 1
  | .startWhileBusy _ => 2
  | .messageChanged => 3

/-- `raise f` (R127): set the sticky mark if none is set yet. Nothing is saved, no control is transferred (R131). -/
def raise (f : Fault) (s : State) : State := { s with fault := s.fault.or (some f) }

/-- Record a contract violation when the condition `broken` holds. -/
def raiseIf (broken : Bool) (f : Fault) (s : State) : State := if broken then raise f s else s

/-- Record what an operation returns, or an event, in the run record (R10). -/
def emit (e : Event) (s : State) : State := { s with trace := e :: s.trace }

/-- The completing TAKE ends the transmission and emits `Complete` (R107). -/
def completeIf (completing : Bool) (s : State) : State :=
  if completing then emit .complete { s with inflight := false } else s

/-- Sample the ports for this step: the environment's next sample, or the idle ports when it presents none (R9, D22). -/
def fetch (s : State) : PortSample × State :=
  match s.input with
  | [] => (.idle, s)
  | p :: rest => (p, { s with input := rest })

/-- The reset input (R65, R137): every register as in R32, `MSG` unspecified. It is a step of the same run, so the run
record stays, the fault mark included (R127). -/
def assertReset (s : State) : State :=
  { State.reset with
    msg := Memory.ofMessage (Config.msgAtReset s.resets)
    fault := s.fault
    trace := s.trace
    input := s.input
    resets := s.resets + 1 }

end Sys2Proof.Machine
end

