-- ==== Sys2Proof/Machine/Catalog.lean ====
section
/-! DEFINITION. Family 1, the catalog lookup (spec/40_catalog_lookup.md). -/

namespace Sys2Proof.Machine

/-- `descriptor_for(index) = CATALOG[index mod CATALOG_SIZE]` (R75); the default is unreachable (R56). -/
def descriptorFor (c : Parameters) (index : Byte) : Descriptor :=
  c.catalog.getD (selectorIndex index) .blank

/-- `DESCRIPTOR_FOR index` (R75): returns the descriptor, reads and writes no state of the block. -/
def execDescriptorFor (index : Byte) (s : State) : Host.Outcome State Fault Refusal :=
  .next (emit (.descriptor (descriptorFor Config.device.params index)) s)

end Sys2Proof.Machine
end

