-- ==== Sys2Proof/Machine/Start.lean ====
section
/-! DEFINITION. Family 2, arming a transmission (spec/41_start.md). -/

namespace Sys2Proof.Machine

/-- The registers START writes (R81, R82, R83); `APAT`, `MSR` and `OUT` stay (R84). -/
def loadTransmission (d : Descriptor) (message : Message) (bitLength : Byte) (s : State) : State :=
  { s with
    zlen := d.zeroLen
    zpat := d.zeroPat
    olen := d.oneLen
    opat := d.onePat
    pcur := d.preOff
    prem := d.preLen
    alen := 0
    mbyte := 0
    mbit := 0
    needed := 8
    bitlen := clampLength bitLength
    msg := Memory.ofMessage message
    tick := d.tickPeriod
    inflight := true }

/-- START on the configuration `c` (R81): marks `StartWhileBusy` when a transmission is in progress (R85), loads the
registers all the same, and returns the tick period (R83). -/
def startOn (c : Parameters) (protocolIndex : Byte) (message : Message) (bitLength : Byte) (s : State) : State :=
  let d := descriptorFor c protocolIndex
  emit (.tick d.tickPeriod)
    (loadTransmission d message bitLength (raiseIf s.inflight (.startWhileBusy protocolIndex) s))

/-- `START protocol_index, message, bit_length` (R79, R81). -/
def execStart (protocolIndex : Byte) (message : Message) (bitLength : Byte) (s : State) :
    Host.Outcome State Fault Refusal :=
  .next (startOn Config.device.params protocolIndex message bitLength s)

end Sys2Proof.Machine
end

