-- ==== Sys2Proof/Machine/TakeAndStatus.lean ====
section
/-! DEFINITION. Family 4, TAKE, the status reads and NOP (spec/43_take_byte_and_status.md). -/

namespace Sys2Proof.Machine

/-- TAKE (R103): marks `Underrun` when the byte is not complete (R128), returns `OUT` and `done`, asks for the next byte,
and ends the transmission when it is the completing TAKE (R107). -/
def takeByte (s : State) : State :=
  completeIf (doneFlag s && s.inflight)
    (emit (.byte (outBytePort s) (doneFlag s))
      (raiseIf (!readyFlag s) (.underrun s.needed) { s with needed := 8 }))

/-- `TAKE` (R103). -/
def execTake (s : State) : Host.Outcome State Fault Refusal := .next (takeByte s)

/-- `READY`, the status read `NEEDED == 0` (R104). -/
def execReady (s : State) : Host.Outcome State Fault Refusal := .next (emit (.ready (readyFlag s)) s)

/-- `DONE`, the status read `OLEN == 0` (R105). -/
def execDone (s : State) : Host.Outcome State Fault Refusal := .next (emit (.done (doneFlag s)) s)

/-- `NOP` (R106): no register written, no result. -/
def execNop (s : State) : Host.Outcome State Fault Refusal := .next s

end Sys2Proof.Machine
end

