-- ==== Sys2Proof/Machine/Work.lean ====
section
/-! DEFINITION. Family 3, the work step and its six actions (spec/42_work_step.md). -/

namespace Sys2Proof.Machine

/-- The action of a work step: the first row of R88 whose condition holds in the old state. -/
def selectAction (s : State) : Action :=
  if s.needed = 0 then .w1
  else if s.prem ≠ 0 then .w2
  else if s.alen ≠ 0 then .w3
  else if s.zlen = 0 then .w4
  else if s.mbit = s.bitlen then .w5
  else .w6

/-- W1, no-op (R91). -/
def actW1 (s : State) : State := s

/-- W2, deliver one preamble byte (R92). -/
def actW2 (c : Parameters) (s : State) : State :=
  { s with
    out := poolRead c s.pcur
    pcur := s.pcur + 1
    prem := s.prem - 1
    needed := 0 }

/-- W3, shift one bit of the active pattern into the output byte (R93). -/
def actW3 (s : State) : State :=
  { s with
    out := shiftIn s.out (topBit s.apat)
    apat := shiftIn s.apat false
    alen := s.alen - 1
    needed := s.needed - 1 }

/-- W4, the done action (R94). -/
def actW4 (s : State) : State :=
  { s with
    out := 0x00
    olen := 0
    needed := 0 }

/-- W5, enter flush (R95). -/
def actW5 (s : State) : State :=
  { s with
    alen := flushCount s.needed
    apat := 0x00
    zlen := 0 }

/-- The byte W6 takes its bit from: the next message byte at a fetch, else the shift register (R96). -/
def currentMessageByte (s : State) : Byte :=
  if byteAligned s.mbit then s.msg.read s.mbyte.toNat else s.msr

/-- W6, take the next payload bit and select its symbol (R96). -/
def actW6 (s : State) : State :=
  let m := currentMessageByte s
  { s with
    mbyte := if byteAligned s.mbit then s.mbyte + 1 else s.mbyte
    alen := if topBit m then symbolCount s.olen else symbolCount s.zlen
    apat := if topBit m then s.opat else s.zpat
    mbit := s.mbit + 1
    msr := shiftIn m false }

/-- Carry out one action. -/
def perform (c : Parameters) : Action → State → State
  | .w1, s => actW1 s
  | .w2, s => actW2 c s
  | .w3, s => actW3 s
  | .w4, s => actW4 s
  | .w5, s => actW5 s
  | .w6, s => actW6 s

/-- One work step: exactly the selected action (R87, R88). -/
def workOn (c : Parameters) (s : State) : State := perform c (selectAction s) s

/-- `WORK` (R88). -/
def execWork (s : State) : Host.Outcome State Fault Refusal :=
  .next (workOn Config.device.params s)

/-- `WORK.W1` (R91). Its command code is WORK's, so in a state that selects another action the block does that one; the
same holds of the five rows below (log entry 11). -/
def execWorkW1 (s : State) : Host.Outcome State Fault Refusal :=
  .next (if selectAction s = .w1 then actW1 s else workOn Config.device.params s)

/-- `WORK.W2` (R92). -/
def execWorkW2 (s : State) : Host.Outcome State Fault Refusal :=
  .next (if selectAction s = .w2 then actW2 Config.device.params s else workOn Config.device.params s)

/-- `WORK.W3` (R93). -/
def execWorkW3 (s : State) : Host.Outcome State Fault Refusal :=
  .next (if selectAction s = .w3 then actW3 s else workOn Config.device.params s)

/-- `WORK.W4` (R94). -/
def execWorkW4 (s : State) : Host.Outcome State Fault Refusal :=
  .next (if selectAction s = .w4 then actW4 s else workOn Config.device.params s)

/-- `WORK.W5` (R95). -/
def execWorkW5 (s : State) : Host.Outcome State Fault Refusal :=
  .next (if selectAction s = .w5 then actW5 s else workOn Config.device.params s)

/-- `WORK.W6` (R96). -/
def execWorkW6 (s : State) : Host.Outcome State Fault Refusal :=
  .next (if selectAction s = .w6 then actW6 s else workOn Config.device.params s)

end Sys2Proof.Machine
end

