-- ==== Sys2Proof/Machine/Dispatch.lean ====
section
/-! DEFINITION. The dispatch: one arm per operation of spec/opcode_table.json. -/

namespace Sys2Proof.Machine

def exec (i : Instr) (s : State) : Host.Outcome State Fault Refusal :=
  match i with
  | .nop => Sys2Proof.Machine.execNop s
  | .start p m n => Sys2Proof.Machine.execStart p m n s
  | .work => Sys2Proof.Machine.execWork s
  | .workW1 => Sys2Proof.Machine.execWorkW1 s
  | .workW2 => Sys2Proof.Machine.execWorkW2 s
  | .workW3 => Sys2Proof.Machine.execWorkW3 s
  | .workW4 => Sys2Proof.Machine.execWorkW4 s
  | .workW5 => Sys2Proof.Machine.execWorkW5 s
  | .workW6 => Sys2Proof.Machine.execWorkW6 s
  | .take => Sys2Proof.Machine.execTake s
  | .ready => Sys2Proof.Machine.execReady s
  | .done => Sys2Proof.Machine.execDone s
  | .descriptorFor index => Sys2Proof.Machine.execDescriptorFor index s

end Sys2Proof.Machine
end

