-- ==== Sys2Proof/Machine/Step.lean ====
section
/-! DEFINITION. One step: sample the ports, obey the reset input, else execute the presented command (R8, R63, R137). -/

namespace Sys2Proof.Machine

/-- One step of the block (R8). -/
def step (s : State) : Host.Outcome State Fault Refusal :=
  let (p, s') := fetch s
  if p.reset then .next (assertReset s') else exec (decode p) s'

/-- `s` with the table's word as the environment's next port sample: the block has no stored program, so this stands for
the caller presenting that command (log entry 2). -/
def State.withFetchWord (s : State) (nbits w : Nat) : State :=
  { s with input := PortSample.ofWord (tableWord nbits w) :: s.input }

end Sys2Proof.Machine
end

