-- ==== Sys2Proof/Machine/Script.lean ====
section
/-! DEFINITION. Scripts, the pseudo-operations of R71, and what is read off the run record. -/

namespace Sys2Proof.Machine

/-- Continue from the state an operation leaves. -/
def andThen (o : Host.Outcome State Fault Refusal) (k : State → Host.Outcome State Fault Refusal) :
    Host.Outcome State Fault Refusal :=
  match o with
  | .next s => k s
  | .fault f => .fault f
  | .refused r => .refused r

/-- Execute a script, one operation after the other (R70). -/
def runScript : List Instr → State → Host.Outcome State Fault Refusal
  | [], s => .next s
  | i :: is, s => andThen (exec i s) (runScript is)

/-- "repeat `WORK` while `ready == 0`" (R71), at most `fuel` times. -/
def pumpWorks : Nat → State → Host.Outcome State Fault Refusal
  | 0, s => .next s
  | fuel + 1, s => if readyFlag s then .next s else andThen (exec .work s) (pumpWorks fuel)

/-- `PUMP` (R71): at most 16 WORKs make the byte ready (R117), then one TAKE. -/
def pump (s : State) : Host.Outcome State Fault Refusal := andThen (pumpWorks 16 s) (exec .take)

/-- `PUMP*` (R71): repeat `PUMP` until one returns `done = 1`, at most `fuel` times. -/
def pumpAll : Nat → State → Host.Outcome State Fault Refusal
  | 0, s => .next s
  | fuel + 1, s => andThen (pump s) fun t => if doneFlag t then .next t else pumpAll fuel t

/-- `SEND p, msg, n` (R71); a transmission has at most 162 bytes (R113). -/
def send (protocolIndex : Byte) (message : Message) (bitLength : Byte) (s : State) :
    Host.Outcome State Fault Refusal :=
  andThen (exec (.start protocolIndex message bitLength) s) (pumpAll 162)

/-- The results of the TAKEs of a run record, oldest first. -/
def bytesTaken (trace : List Event) : List (Byte × Bool) :=
  (trace.filterMap fun e => match e with
    | .byte value done => some (value, done)
    | .tick _ => none
    | .complete => none
    | .ready _ => none
    | .done _ => none
    | .descriptor _ => none).reverse

/-- How many `Complete` events a run record holds (R107). -/
def completions (trace : List Event) : Nat := trace.count .complete

/-- How many TAKEs a script holds. -/
def takes (is : List Instr) : Nat := is.count .take

/-- How many WORKs of a script run from `s` are not W1 no-ops (R114). -/
def effectiveWorks : List Instr → State → Nat
  | [], _ => 0
  | i :: is, s =>
    (if i.code = 0b10#2 ∧ selectAction s ≠ .w1 then 1 else 0) +
      match exec i s with
      | .next t => effectiveWorks is t
      | .fault _ => 0
      | .refused _ => 0

end Sys2Proof.Machine
end

