-- ==== Sys2Proof/Machine/Stream.lean ====
section
/-! DEFINITION. The output stream of a transmission in closed form (spec/44_transmission_stream.md R110 to R114), and
what a block in a given state still has to deliver. -/

namespace Sys2Proof.Machine

/-- The first `len` bits of an MSB-aligned pattern, zeros beyond the eighth (R58; R99 (c) for the zeros). -/
def patternBits (len : Nat) (pat : Byte) : List Bool :=
  (List.range len).map fun j => decide (j < 8) && pat.getLsbD (7 - j)

/-- The symbol that replaces a payload bit (R110, `sym`). -/
def symbolBits (zeroLen oneLen : BitVec 4) (zeroPat onePat : Byte) (bit : Bool) : List Bool :=
  if bit then patternBits oneLen.toNat onePat else patternBits zeroLen.toNat zeroPat

/-- The payload bit sequence `S` of a request whose clamped length is `n` (R110). -/
def payloadBits (d : Descriptor) (message : Message) (n : Nat) : List Bool :=
  (List.range n).flatMap fun k =>
    symbolBits d.zeroLen d.oneLen d.zeroPat d.onePat (messageBit message k)

/-- The flush length after `k` payload bits, `(8 - r) + 8` with `r = k mod 8` (R110). -/
def flushLength (k : Nat) : Nat := (8 - k % 8) + 8

/-- The byte of a group of bits, first bit most significant (R110). -/
def byteOfBits (bits : List Bool) : Byte := bits.foldl shiftIn 0

/-- `bytes(B)`: cut into groups of eight (R110). -/
def packBytes (bits : List Bool) : List Byte :=
  (List.range (bits.length / 8)).map fun i => byteOfBits ((bits.drop (8 * i)).take 8)

/-- The payload and its flush, `B` (R110). -/
def paddedBits (payload : List Bool) : List Bool :=
  payload ++ List.replicate (flushLength payload.length) false

/-- The preamble bytes of a descriptor (R60, R110). -/
def preambleBytes (c : Parameters) (d : Descriptor) : List Byte :=
  (c.pool.drop d.preOff.toNat).take d.preLen.toNat

/-- The bytes of a transmission before its sentinel byte, `pre ++ bytes(B)` (R111). -/
def dataBytes (c : Parameters) (d : Descriptor) (message : Message) (n : Nat) : List Byte :=
  preambleBytes c d ++ packBytes (paddedBits (payloadBits d message n))

/-- The results of a transmission's TAKEs: `done` is 0 for every byte but the sentinel byte (R111). -/
def streamTakes (c : Parameters) (protocolIndex : Byte) (message : Message) (bitLength : Byte) : List (Byte × Bool) :=
  (dataBytes c (descriptorFor c protocolIndex) message (clampLength bitLength).toNat).map (fun b => (b, false)) ++
    [(0x00, true)]

/-- `W`, the work steps of a transmission that are not no-ops (R114). -/
def workSteps (d : Descriptor) (message : Message) (n : Nat) : Nat :=
  d.preLen.toNat + ((payloadBits d message n).length + n) + (1 + flushLength (payloadBits d message n).length) + 1

/-- Message bit `k` of the buffer, `MSG[k div 8][7 - (k mod 8)]` (R12, R43). -/
def bufferBit (m : Memory) (k : Nat) : Bool := (m.read (k / 8)).getLsbD (7 - k % 8)

/-- The bits already shifted into the output byte, first to last (R103: its low `8 - NEEDED` bits). -/
def builtBits (s : State) : List Bool :=
  (List.range (8 - s.needed.toNat)).map fun j => s.out.getLsbD (7 - s.needed.toNat - j)

/-- The symbols of the message bits not yet consumed. -/
def unsentSymbols (s : State) : List Bool :=
  (List.range (s.bitlen.toNat - s.mbit.toNat)).flatMap fun j =>
    symbolBits s.zlen s.olen s.zpat s.opat (bufferBit s.msg (s.mbit.toNat + j))

/-- The bits the block still turns into bytes: the byte under construction, the active pattern, and, before the flush
is entered, the unsent symbols and the flush zeros. -/
def unsentBits (s : State) : List Bool :=
  let begun := builtBits s ++ patternBits s.alen.toNat s.apat
  if doneSentinel s then begun else paddedBits (begun ++ unsentSymbols s)

/-- The TAKE results still to come once the byte in `OUT`, if complete, is taken; none after W4. -/
def pendingAfterByte (c : Parameters) (s : State) : List (Byte × Bool) :=
  if doneFlag s then []
  else ((c.pool.drop s.pcur.toNat).take s.prem.toNat ++ packBytes (unsentBits s)).map (fun b => (b, false)) ++
    [(0x00, true)]

/-- The TAKE results still to come from a state, up to the sentinel byte. -/
def pendingTakes (c : Parameters) (s : State) : List (Byte × Bool) :=
  if readyFlag s then (s.out, doneFlag s) :: pendingAfterByte c { s with needed := 8 } else pendingAfterByte c s

end Sys2Proof.Machine
end

