-- ==== Sys2Proof/Safety.lean ====
section
/-! DEFINITION. The contract (spec/60_exceptions.md R123 to R126), runs that keep it, and the invariants statements use. -/

namespace Sys2Proof

open Sys2Proof.Machine

/-- The contract for one operation: START only with no transmission in progress (clause 2, R124), TAKE only of a complete
byte (clause 1, R123) and only up to the completing TAKE (clause 4, R126). Clause 3 (R125) cannot be broken. -/
def contractOk (i : Instr) (s : State) : Bool :=
  match i with
  | .start _ _ _ => !s.inflight
  | .take => readyFlag s && s.inflight
  | .nop => true
  | .work => true
  | .workW1 => true
  | .workW2 => true
  | .workW3 => true
  | .workW4 => true
  | .workW5 => true
  | .workW6 => true
  | .ready => true
  | .done => true
  | .descriptorFor _ => true

/-- Every operation of the script keeps the contract in the state it is executed in. -/
def KeepsContract : List Instr → State → Prop
  | [], _ => True
  | i :: is, s => contractOk i s = true ∧ ∀ t, exec i s = .next t → KeepsContract is t

/-- A run that ends in `t` has the postcondition: `t` carries no fault mark and is as claimed. A run with a recorded fault
has none, whatever it claims (R85, R127). -/
def Holds (post : State → Prop) (t : State) : Prop := t.fault = none ∧ post t

/-- The script, run from `s`, satisfies the postcondition (R85, R127): it ends, and its end state has it. -/
def Satisfies (is : List Instr) (s : State) (post : State → Prop) : Prop :=
  ∃ t, runScript is s = .next t ∧ Holds post t

/-- The rows whose command code is WORK's: WORK and its six actions (R72). -/
def isWork (i : Instr) : Bool := i.code == 0b10#2

/-- The operation is a START. -/
def isStart (i : Instr) : Bool :=
  match i with
  | .start _ _ _ => true
  | .nop => false
  | .work => false
  | .workW1 => false
  | .workW2 => false
  | .workW3 => false
  | .workW4 => false
  | .workW5 => false
  | .workW6 => false
  | .take => false
  | .ready => false
  | .done => false
  | .descriptorFor _ => false

/-- The script holds no START. -/
def noStart (is : List Instr) : Bool := is.all fun i => !isStart i

/-- The range invariants (R31), with the canonical form of `MSG` and the width of `TICK`. -/
structure RangeInv (s : State) : Prop where
  needed_le : s.needed.toNat ≤ 8
  prem_le : s.prem.toNat ≤ 31
  window : s.pcur.toNat + s.prem.toNat ≤ 31
  mbit_le : s.mbit.toNat ≤ s.bitlen.toNat
  bitlen_le : s.bitlen.toNat ≤ 128
  mbyte_eq : s.mbyte.toNat = (s.mbit.toNat + 7) / 8
  mbyte_le : s.mbyte.toNat ≤ 16
  zlen_le : s.zlen.toNat ≤ 8
  olen_le : s.olen.toNat ≤ 8
  alen_le : s.alen.toNat ≤ 16
  tick_lt : s.tick < 2 ^ Config.device.params.tickW
  msg_wf : s.msg.wf

/-- How the sequencer's registers hang together in every reachable state, whatever the commands: the idle block holds
nothing (R108, R137), the sentinel byte waits for the completing TAKE (R107), the preamble goes first and byte by byte (R90, R92), and the shift register holds the
unconsumed bits of the current message byte (R19). -/
structure FlowInv (s : State) : Prop where
  idle : s.olen = 0 → s.prem = 0 ∧ s.alen = 0 ∧ s.zlen = 0 ∧ s.out = 0
  idle_of_not_inflight : s.inflight = false → s.olen = 0
  sentinel_ready : s.inflight = true → s.olen = 0 → s.needed = 0
  preamble_first : s.prem ≠ 0 → s.zlen ≠ 0 ∧ s.alen = 0 ∧ (s.needed = 0 ∨ s.needed = 8)
  shift_register : s.mbit.toNat % 8 ≠ 0 → s.msr = s.msg.read (s.mbit.toNat / 8) <<< (s.mbit.toNat % 8)

/-- In the flush the bits left and the bits needed end a byte together; broken only by an underrun (R115). -/
def FlushAligned (s : State) : Prop :=
  s.zlen = 0 → s.olen ≠ 0 → s.alen.toNat % 8 = s.needed.toNat % 8

end Sys2Proof
end

