-- ==== Sys2Proof/Certificates/Slice0/Obligations.lean ====
section
/-! DEFINITION. The statements for the provers. Where a statement says `{ s with … }` every register, the run record, the
environment's samples and every byte of `MSG` not named there are as before. "Inferred by the spec" marks a rule the spec
itself derives from others. -/

open Sys2Proof Sys2Proof.Machine

/-! ## The command port -/

/-- R63, R65: the four code points of `cmd`, each as a port word written out bit by bit. The order of the operand ports
above `cmd` is the model's (log entry 1). -/
def Obligations.PortCodePointsDecode : Prop :=
  decodeWord 0b00#147 = .nop ∧ decodeWord 0b10#147 = .work ∧ decodeWord 0b11#147 = .take ∧
    decodeWord (0b0#1 ++ (0xA0#8 ++ 0#120) ++ 0x03#8 ++ 0x10#8 ++ 0b01#2) = .start 0x10 (0xA0#8 ++ 0#120) 0x03

/-- R63, R65: the port word of every command decodes to that command, with the reset input low; no operand bit is lost.
The word of a row that is no command decodes to the command the port carries for it: for the six actions that is WORK,
whose code theirs is; for READY and DONE it is NOP and for DESCRIPTOR_FOR a START of that selector with no message,
which is the model's choice (log entry 13): R63 lets a status read be sampled in any step and the lookup has no
code. -/
def Obligations.EncodedOperationDecodes : Prop :=
  ∀ i : Instr, decodeWord (encodeWord i) = i.onPort ∧ (PortSample.ofWord (encodeWord i)).reset = false ∧
    (i.wellFormed = true → decodeWord (encodeWord i) = i)

/-- R68: every port word presents a well-formed command, that of its two low bits, and no bit of the word is
dropped. -/
def Obligations.EveryPortWordIsACommand : Prop :=
  ∀ w : BitVec portBits, (decodeWord w).wellFormed = true ∧ (decodeWord w).code.toNat = w.toNat % 4 ∧
    (PortSample.ofWord w).toWord = w

/-- R65: operand inputs are ignored unless `cmd` is START. -/
def Obligations.OperandInputsIgnoredUnlessStart : Prop :=
  ∀ p q : PortSample, p.cmd = q.cmd → p.cmd ≠ 0b01#2 → decode p = decode q

/-- A step with the reset input low samples the next ports and executes the command they present. -/
def Obligations.StepRunsPresentedCommand : Prop :=
  ∀ (s : State) (p : PortSample) (rest : List PortSample), s.input = p :: rest → p.reset = false →
    (decode p).wellFormed = true ∧ step s = exec (decode p) { s with input := rest }

/-- The model's choice (log entry 2): when the environment presents nothing the ports are idle, a NOP. -/
def Obligations.StepWithNoCommandIsIdle : Prop :=
  ∀ s : State, s.input = [] → step s = .next s

/-- The port word of any operation, presented next, is what the very next step runs, as the command the port carries
for it. That presenting a word puts it before the environment's other samples is the model's choice (log entry 2), and
so is the command carried for a row that is none: NOP for READY and DONE, START for DESCRIPTOR_FOR (log entry 13). -/
def Obligations.PresentedWordRunsNext : Prop :=
  ∀ (i : Instr) (s : State), step (s.withFetchWord portBits (encodeWord i).toNat) = exec i.onPort s

/-- R68: no operation and no step traps or stops. -/
def Obligations.NothingTraps : Prop :=
  (∀ (i : Instr) (s : State), ∃ t, exec i s = .next t) ∧ ∀ s : State, ∃ t, step s = .next t

/-! ## Reset -/

/-- R32: the reset values; `MSG` is unspecified there and not part of the statement. -/
def Obligations.ResetValues : Prop :=
  (State.reset.zlen = 0 ∧ State.reset.zpat = 0 ∧ State.reset.olen = 0 ∧ State.reset.opat = 0 ∧
    State.reset.pcur = 0 ∧ State.reset.prem = 0 ∧ State.reset.alen = 0 ∧ State.reset.apat = 0 ∧
    State.reset.mbyte = 0 ∧ State.reset.mbit = 0 ∧ State.reset.msr = 0 ∧ State.reset.out = 0 ∧
    State.reset.needed = 0 ∧ State.reset.bitlen = 0 ∧ State.reset.tick = 0 ∧ State.reset.inflight = false) ∧
  readyFlag State.reset = true ∧ doneFlag State.reset = true ∧ phase State.reset = .done

/-- R138 (inferred by the spec): the reset state before any START: WORK and NOP change nothing, both status reads give
1, TAKE returns `(0x00, 1)` and asks for a byte, and the WORK after it is W4 and restores `NEEDED = 0`. -/
def Obligations.ResetStateBehaviour : Prop :=
  exec .work State.reset = .next State.reset ∧ exec .nop State.reset = .next State.reset ∧
  selectAction State.reset = .w1 ∧
  exec .ready State.reset = .next { State.reset with trace := [.ready true] } ∧
  exec .done State.reset = .next { State.reset with trace := [.done true] } ∧
  exec .take State.reset = .next { State.reset with needed := 8, trace := [.byte 0x00 true] } ∧
  selectAction { State.reset with needed := 8, trace := [.byte 0x00 true] } = .w4 ∧
  exec .work { State.reset with needed := 8, trace := [.byte 0x00 true] } =
    .next { State.reset with needed := 0, trace := [.byte 0x00 true] }

/-- The assumed reset input (R65, R137): every register as in R32 whatever command is presented with it; the run
record, the fault mark included, stays (R127). That it outranks the command is the model's choice (log entry 5). -/
def Obligations.ResetInputClearsRegisters : Prop :=
  ∀ (s : State) (p : PortSample) (rest : List PortSample), s.input = p :: rest → p.reset = true →
    ∃ t, step s = .next t ∧
      t = { State.reset with
        msg := t.msg, fault := s.fault, trace := s.trace, input := rest, resets := s.resets + 1 } ∧ t.msg.wf

/-! ## Invariants -/

/-- The reset state meets both invariants. -/
def Obligations.ResetMeetsInvariants : Prop := RangeInv State.reset ∧ FlowInv State.reset

/-- R31 (inferred by the spec): the ranges hold at reset, after a START from any state whatever, and are kept by every
operation, whether or not the contract holds; so no register exceeds its width and no subtraction goes below zero. -/
def Obligations.RangesHoldUnderAnyCommands : Prop :=
  RangeInv State.reset ∧
  (∀ p m n s t, exec (.start p m n) s = .next t → RangeInv t) ∧
  (∀ i s t, RangeInv s → exec i s = .next t → RangeInv t)

/-- Every step, the reset input included, keeps the ranges and the canonical form of `MSG`. -/
def Obligations.StepKeepsRanges : Prop :=
  ∀ s t : State, RangeInv s → step s = .next t → RangeInv t

/-- Every step keeps the sequencer's invariant: an idle block stays empty, the preamble is delivered first and byte by
byte, and `MSR` holds the unconsumed bits of the current message byte. -/
def Obligations.StepKeepsFlow : Prop :=
  ∀ s t : State, RangeInv s → FlowInv s → step s = .next t → FlowInv t

/-- START establishes the sequencer's invariant from any state. -/
def Obligations.StartEstablishesFlow : Prop :=
  ∀ p m n s t, exec (.start p m n) s = .next t → FlowInv t ∧ FlushAligned t

/-- R115 (inferred by the spec): while the contract is kept the flush ends on a byte boundary, so the sentinel action
first runs with `NEEDED = 8`. -/
def Obligations.FlushStaysAligned : Prop :=
  (∀ i s t, RangeInv s → FlowInv s → FlushAligned s → contractOk i s = true → exec i s = .next t → FlushAligned t) ∧
  (∀ s, RangeInv s → FlushAligned s → selectAction s = .w4 → s.olen ≠ 0 → s.needed = 8)

/-! ## The catalog lookup -/

/-- R75: the lookup folds the selector, always finds a descriptor, returns it, and changes nothing else. -/
def Obligations.LookupFoldsSelector : Prop :=
  ∀ (index : Byte) (s : State), ∃ d, Config.device.params.catalog[index.toNat % 9]? = some d ∧
    exec (.descriptorFor index) s = .next { s with trace := .descriptor d :: s.trace }

/-- R76: the laws of the lookup. Inferred by the spec: the spread of the 256 selector values. -/
def Obligations.LookupLaws : Prop :=
  (∀ i j : Byte, j.toNat = i.toNat + 9 →
    descriptorFor Config.device.params j = descriptorFor Config.device.params i) ∧
  (∀ i : Byte, i.toNat < 9 →
    Config.device.params.catalog[i.toNat]? = some (descriptorFor Config.device.params i)) ∧
  (∀ (i : Byte) (d : Descriptor), d = descriptorFor Config.device.params i →
    d ∈ Config.device.params.catalog ∧ (1 ≤ d.zeroLen.toNat ∧ d.zeroLen.toNat ≤ 8) ∧
      (1 ≤ d.oneLen.toNat ∧ d.oneLen.toNat ≤ 8) ∧ d.preOff.toNat + d.preLen.toNat ≤ 31 ∧
      d.tickPeriod < 2 ^ Config.device.params.tickW) ∧
  (∀ r < 9, ((List.range 256).countP fun v => selectorIndex (BitVec.ofNat 8 v) == r) = if r ≤ 3 then 29 else 28)

/-! ## START -/

/-- R80, R81: everything START writes, what it returns, the flags and the phase it leaves, and what it leaves alone. -/
def Obligations.StartArmsTransmission : Prop :=
  ∀ (p : Byte) (m : Message) (n : Byte) (s : State), ∃ d t,
    Config.device.params.catalog[p.toNat % 9]? = some d ∧ exec (.start p m n) s = .next t ∧
    t.zlen = d.zeroLen ∧ t.zpat = d.zeroPat ∧ t.olen = d.oneLen ∧ t.opat = d.onePat ∧
    t.pcur = d.preOff ∧ t.prem = d.preLen ∧ t.alen = 0 ∧ t.mbyte = 0 ∧ t.mbit = 0 ∧ t.needed = 8 ∧
    t.bitlen.toNat = min n.toNat 128 ∧
    (∀ i < 16, (t.msg.read i).toNat = m.toNat / 2 ^ (8 * (15 - i)) % 256) ∧
    t.tick = d.tickPeriod ∧ t.inflight = true ∧ t.trace = .tick d.tickPeriod :: s.trace ∧
    t.fault = (if s.inflight then s.fault.or (some (.startWhileBusy p)) else s.fault) ∧
    t.apat = s.apat ∧ t.msr = s.msr ∧ t.out = s.out ∧
    readyFlag t = false ∧ doneFlag t = false ∧ doneSentinel t = false ∧
    phase t = if d.preLen ≠ 0 then .preamble else .payload

/-- R84 and the frame of START: `APAT`, `MSR`, `OUT`, the samples to come and all of memory outside the 16 cells of
`MSG` are unchanged. -/
def Obligations.StartFrame : Prop :=
  ∀ (p : Byte) (m : Message) (n : Byte) (s t : State), exec (.start p m n) s = .next t →
    t.apat = s.apat ∧ t.msr = s.msr ∧ t.out = s.out ∧ t.input = s.input ∧ t.resets = s.resets ∧
    (s.msg.wf → ∀ a, 16 ≤ a → t.msg.read a = s.msg.read a)

/-- R12, R43, R82: after START message bit `k` of the buffer is bit `127 - k` of the `message` port. -/
def Obligations.StartLoadsMessageMsbFirst : Prop :=
  ∀ (p : Byte) (m : Message) (n : Byte) (s t : State) (k : Nat), exec (.start p m n) s = .next t → k < 128 →
    (t.msg.read (k / 8)).getLsbD (7 - k % 8) = m.getLsbD (127 - k)

/-- R80: START depends on the selector and the length only through `mod 9` and `min(., 128)`. -/
def Obligations.StartFoldsAndClamps : Prop :=
  ∀ (p q : Byte) (m : Message) (n k : Byte) (s : State), s.inflight = false → p.toNat % 9 = q.toNat % 9 →
    min n.toNat 128 = min k.toNat 128 → exec (.start p m n) s = exec (.start q m k) s

/-- R33 (inferred by the spec): after a START nothing observable depends on the state before it: the same later script,
keeping the contract, returns the same results and leaves the same `ready` and `done` levels. -/
def Obligations.StartHidesThePast : Prop :=
  ∀ (p : Byte) (m : Message) (n : Byte) (is : List Instr) (s₁ s₂ t₁ : State),
    s₂.inflight = false → KeepsContract (.start p m n :: is) s₁ → runScript (.start p m n :: is) s₁ = .next t₁ →
    ∃ t₂ es, runScript (.start p m n :: is) s₂ = .next t₂ ∧ t₁.trace = es ++ s₁.trace ∧ t₂.trace = es ++ s₂.trace ∧
      readyFlag t₁ = readyFlag t₂ ∧ doneFlag t₁ = doneFlag t₂ ∧ t₁.tick = t₂.tick

/-! ## WORK -/

/-- R88: a work step performs exactly the selected action, the first of the six whose condition holds: each condition
with its "no earlier row applied" clauses written out. -/
def Obligations.WorkSelectsByPriority : Prop :=
  ∀ s : State, exec .work s = .next (perform Config.device.params (selectAction s) s) ∧
    (selectAction s = .w1 ↔ s.needed = 0) ∧
    (selectAction s = .w2 ↔ s.needed ≠ 0 ∧ s.prem ≠ 0) ∧
    (selectAction s = .w3 ↔ s.needed ≠ 0 ∧ s.prem = 0 ∧ s.alen ≠ 0) ∧
    (selectAction s = .w4 ↔ s.needed ≠ 0 ∧ s.prem = 0 ∧ s.alen = 0 ∧ s.zlen = 0) ∧
    (selectAction s = .w5 ↔ s.needed ≠ 0 ∧ s.prem = 0 ∧ s.alen = 0 ∧ s.zlen ≠ 0 ∧ s.mbit = s.bitlen) ∧
    (selectAction s = .w6 ↔ s.needed ≠ 0 ∧ s.prem = 0 ∧ s.alen = 0 ∧ s.zlen ≠ 0 ∧ s.mbit ≠ s.bitlen)

/-- R91: with the byte complete, WORK is a no-op. -/
def Obligations.WorkNoOpWhenReady : Prop :=
  ∀ s : State, s.needed = 0 → exec .work s = .next s ∧ exec .workW1 s = .next s

/-- R92: one whole preamble byte, verbatim from the pool. Inferred by the spec: while the sequencer's invariant holds
`NEEDED` is 8 then, so no partly built byte is overwritten, and `PCUR` advances by 1. -/
def Obligations.WorkDeliversPreambleByte : Prop :=
  ∀ s : State, s.needed ≠ 0 → s.prem ≠ 0 → s.pcur.toNat + s.prem.toNat ≤ 31 →
    ∃ b t, Config.device.params.pool[s.pcur.toNat]? = some b ∧ exec .work s = .next t ∧ exec .workW2 s = .next t ∧
      t = { s with out := b, pcur := t.pcur, prem := t.prem, needed := 0 } ∧
      t.pcur.toNat = s.pcur.toNat + 1 ∧ t.prem.toNat + 1 = s.prem.toNat ∧ readyFlag t = true ∧
      (FlowInv s → s.needed = 8)

/-- R93: one bit of the active pattern enters the output byte at bit 0, the pattern and the counts move on. -/
def Obligations.WorkShiftsOneBit : Prop :=
  ∀ s : State, s.needed ≠ 0 → s.prem = 0 → s.alen ≠ 0 →
    ∃ t, exec .work s = .next t ∧ exec .workW3 s = .next t ∧
      t = { s with out := t.out, apat := t.apat, alen := t.alen, needed := t.needed } ∧
      t.out.toNat = (2 * s.out.toNat + s.apat.toNat / 128) % 256 ∧ t.apat.toNat = 2 * s.apat.toNat % 256 ∧
      t.alen.toNat + 1 = s.alen.toNat ∧ t.needed.toNat + 1 = s.needed.toNat ∧
      (readyFlag t = true ↔ s.needed = 1)

/-- R94: the sentinel byte and the completion mark. Inferred by the spec: afterwards only W4 and W1 can be selected,
whatever `NEEDED` is set to. -/
def Obligations.WorkFinishes : Prop :=
  ∀ s : State, s.needed ≠ 0 → s.prem = 0 → s.alen = 0 → s.zlen = 0 →
    ∃ t, exec .work s = .next t ∧ exec .workW4 s = .next t ∧ t = { s with out := 0x00, olen := 0, needed := 0 } ∧
      readyFlag t = true ∧ doneFlag t = true ∧
      ∀ k : BitVec 4, selectAction { t with needed := k } = if k = 0 then .w1 else .w4

/-- R95: entering the flush sets `NEEDED + 8` zero bits going and the done sentinel, and emits nothing. -/
def Obligations.WorkEntersFlush : Prop :=
  ∀ s : State, s.needed ≠ 0 → s.prem = 0 → s.alen = 0 → s.zlen ≠ 0 → s.mbit = s.bitlen →
    ∃ t, exec .work s = .next t ∧ exec .workW5 s = .next t ∧
      t = { s with alen := t.alen, apat := 0x00, zlen := 0 } ∧ t.alen.toNat = s.needed.toNat + 8 ∧
      doneSentinel t = true ∧ readyFlag t = readyFlag s ∧ doneFlag t = doneFlag s

/-- The spec's own inference in R95 and R90: once a work step has entered the flush no later operation but a START lets
a work step enter it again. -/
def Obligations.FlushIsEnteredOnce : Prop :=
  ∀ (is : List Instr) (s t : State), s.zlen = 0 → noStart is = true → runScript is s = .next t →
    t.zlen = 0 ∧ selectAction t ≠ .w5 ∧ selectAction t ≠ .w6

/-- R96: one payload bit chooses the symbol; the byte is fetched when the cursor is byte-aligned. Inferred by the spec:
`MBYTE` advances at a fetch, and the bit consumed is message bit number `MBIT`. -/
def Obligations.WorkTakesPayloadBit : Prop :=
  ∀ s : State, RangeInv s → s.needed ≠ 0 → s.prem = 0 → s.alen = 0 → s.zlen ≠ 0 → s.mbit ≠ s.bitlen →
    ∃ m t, s.mbit.toNat < s.bitlen.toNat ∧
      m = (if s.mbit.toNat % 8 = 0 then s.msg.read s.mbyte.toNat else s.msr) ∧
      exec .work s = .next t ∧ exec .workW6 s = .next t ∧
      t = { s with alen := t.alen, apat := t.apat, mbyte := t.mbyte, mbit := t.mbit, msr := t.msr } ∧
      t.alen.toNat = (if m.getLsbD 7 then s.olen.toNat else s.zlen.toNat) ∧
      t.apat = (if m.getLsbD 7 then s.opat else s.zpat) ∧
      t.mbyte.toNat = (if s.mbit.toNat % 8 = 0 then s.mbyte.toNat + 1 else s.mbyte.toNat) ∧
      t.mbit.toNat = s.mbit.toNat + 1 ∧ t.msr.toNat = 2 * m.toNat % 256 ∧
      readyFlag t = readyFlag s ∧ doneSentinel t = doneSentinel s ∧ doneFlag t = doneFlag s ∧
      (FlowInv s → m.getLsbD 7 = bufferBit s.msg s.mbit.toNat)

/-- R101 (inferred by the spec): what no work step does. -/
def Obligations.WorkLeavesAlone : Prop :=
  ∀ (i : Instr) (s t : State), isWork i = true → exec i s = .next t →
    t.zpat = s.zpat ∧ t.opat = s.opat ∧ t.bitlen = s.bitlen ∧ (∀ a, t.msg.read a = s.msg.read a) ∧ t.tick = s.tick ∧
    t.inflight = s.inflight ∧ t.fault = s.fault ∧ t.trace = s.trace ∧ t.input = s.input ∧ t.resets = s.resets ∧
    t.needed.toNat ≤ s.needed.toNat ∧
    t.olen = (if selectAction s = .w4 then 0 else s.olen) ∧
    t.zlen = (if selectAction s = .w5 then 0 else s.zlen)

/-- R97 (inferred by the spec): the phase transitions of a work step, and that it never moves the phase back; every
other operation but START leaves the phase alone. -/
def Obligations.PhaseMovesForwardOnly : Prop :=
  (∀ (i : Instr) (s t : State), FlowInv s → isWork i = true → exec i s = .next t →
    phase t = (if selectAction s = .w2 ∧ s.prem = 1 then .payload
      else if selectAction s = .w5 then .flush
      else if selectAction s = .w4 then .done
      else phase s) ∧
    phaseRank (phase s) ≤ phaseRank (phase t)) ∧
  (∀ (i : Instr) (s t : State), isWork i = false → isStart i = false → exec i s = .next t → phase t = phase s)

/-- R27: the three flags change only as listed, and all are 1 at reset. -/
def Obligations.FlagsChangeOnlyAsListed : Prop :=
  (readyFlag State.reset = true ∧ doneSentinel State.reset = true ∧ doneFlag State.reset = true) ∧
  (∀ s : State, (readyFlag s = true ↔ s.needed = 0) ∧ (doneSentinel s = true ↔ s.zlen = 0) ∧
    (doneFlag s = true ↔ s.olen = 0)) ∧
  ∀ (i : Instr) (s t : State), exec i s = .next t →
    readyFlag t = (if isStart i ∨ i = .take then false
      else readyFlag s || (isWork i && decide (selectAction s = .w2 ∨ selectAction s = .w4 ∨
        (selectAction s = .w3 ∧ s.needed = 1)))) ∧
    doneSentinel t = (if isStart i then false
      else doneSentinel s || (isWork i && decide (selectAction s = .w5))) ∧
    doneFlag t = (if isStart i then false else doneFlag s || (isWork i && decide (selectAction s = .w4)))

/-- R58, R93: `k` work steps shift the first `k` bits of the active pattern into the output byte, most significant
first. -/
def Obligations.PatternEmittedMsbFirst : Prop :=
  ∀ (s : State) (k : Nat), s.prem = 0 → s.needed.toNat ≤ 8 → k ≤ s.needed.toNat → k ≤ s.alen.toNat →
    ∃ t, runScript (List.replicate k .work) s = .next t ∧
      t = { s with out := t.out, apat := t.apat, alen := t.alen, needed := t.needed } ∧
      t.alen.toNat + k = s.alen.toNat ∧ t.needed.toNat + k = s.needed.toNat ∧ t.apat = s.apat <<< k ∧
      builtBits t = builtBits s ++ patternBits k s.apat

/-- R117 (inferred by the spec): after a START or a TAKE (`NEEDED = 8`) at most `8 + ceil(8 / L)` work steps make the
byte ready, `L` any lower bound of the two symbol lengths; never more than 16. -/
def Obligations.ByteReadyWithinBound : Prop :=
  ∀ (s : State) (L : Nat), s.needed = 8 → 1 ≤ L → L ≤ 8 →
    (s.zlen ≠ 0 → L ≤ s.zlen.toNat ∧ L ≤ s.olen.toNat) →
    ∃ k t, k ≤ 8 + (8 + L - 1) / L ∧ k ≤ 16 ∧ runScript (List.replicate k .work) s = .next t ∧ readyFlag t = true

/-! ## TAKE, READY, DONE, NOP -/

/-- R103, R107: TAKE of a complete byte returns `OUT` and `done`, asks for the next byte, and, when it is the
completing TAKE, clears `INFLIGHT` and emits `Complete`. That the run record lists `Complete` after the byte is the
model's choice (log entry 4). -/
def Obligations.TakeReturnsCompleteByte : Prop :=
  ∀ s : State, s.needed = 0 →
    exec .take s =
      if s.olen = 0 ∧ s.inflight = true then
        .next { s with needed := 8, inflight := false, trace := .complete :: .byte s.out true :: s.trace }
      else .next { s with needed := 8, trace := .byte s.out (decide (s.olen = 0)) :: s.trace }

/-- R103: TAKE in every state. It asks for the next byte, leaves `OUT` and every other register alone, ends a
transmission when `done` is 1, and records `Underrun` with the value of `NEEDED` when the byte is not complete and no
fault is recorded yet. It returns `OUT` and `done` when the byte is complete; of the byte an early TAKE returns nothing
is claimed, as R103 asks (log entry 9). -/
def Obligations.TakeRestartsReadinessCycle : Prop :=
  ∀ s : State, ∃ t, exec .take s = .next t ∧
    t = { s with
      needed := 8, inflight := s.inflight && !doneFlag s, trace := t.trace,
      fault := if s.needed = 0 then s.fault else s.fault.or (some (.underrun s.needed)) } ∧
    readyFlag t = false ∧ doneFlag t = doneFlag s ∧
    (s.needed = 0 → bytesTaken t.trace = bytesTaken s.trace ++ [(s.out, doneFlag s)]) ∧
    completions t.trace = completions s.trace + if doneFlag s && s.inflight then 1 else 0

/-- R103: the frame of TAKE: no register but `NEEDED`, and the ghost bit only in the completing TAKE; all of `MSG`
unchanged. -/
def Obligations.TakeFrame : Prop :=
  ∀ s t : State, exec .take s = .next t →
    t.zlen = s.zlen ∧ t.zpat = s.zpat ∧ t.olen = s.olen ∧ t.opat = s.opat ∧ t.pcur = s.pcur ∧ t.prem = s.prem ∧
    t.alen = s.alen ∧ t.apat = s.apat ∧ t.mbyte = s.mbyte ∧ t.mbit = s.mbit ∧ t.msr = s.msr ∧ t.out = s.out ∧
    t.bitlen = s.bitlen ∧ t.tick = s.tick ∧ t.input = s.input ∧ t.resets = s.resets ∧
    (∀ a, t.msg.read a = s.msg.read a) ∧ t.inflight = (s.inflight && !doneFlag s) ∧
    completions t.trace = completions s.trace + if s.inflight && doneFlag s then 1 else 0

/-- R104: READY returns `NEEDED == 0` and changes no state. -/
def Obligations.ReadyReadsNeeded : Prop :=
  ∀ s : State, exec .ready s = .next { s with trace := .ready (decide (s.needed = 0)) :: s.trace }

/-- R105: DONE returns `OLEN == 0` and changes no state. -/
def Obligations.DoneReadsOlen : Prop :=
  ∀ s : State, exec .done s = .next { s with trace := .done (decide (s.olen = 0)) :: s.trace }

/-- R106: `cmd = 0b00` is NOP, which has no operands and no result and leaves the state as it is. -/
def Obligations.NopChangesNothing : Prop :=
  (∀ p : PortSample, decode p = .nop ↔ p.cmd = 0b00#2) ∧ ∀ s : State, exec .nop s = .next s

/-- R108 (inferred by the spec): the idle block, pumped, supplies `0x00` with `done = 1` without end, emits no
`Complete` and records no fault. -/
def Obligations.IdleBlockSuppliesZeros : Prop :=
  ∀ (s : State) (k : Nat), s.prem = 0 → s.alen = 0 → s.zlen = 0 → s.olen = 0 → s.out = 0 → s.needed = 0 →
    s.inflight = false →
    runScript (List.replicate k [Instr.take, Instr.work]).flatten s =
      .next { s with trace := List.replicate k (.byte 0x00 true) ++ s.trace }

/-! ## Faults and the contract -/

/-- R127: `raise` sets the mark only if none is set, and no operation and no step, START and the reset input included,
ever clears or changes it. -/
def Obligations.FaultMarkIsSticky : Prop :=
  (∀ (f : Fault) (s : State), raise f s = { s with fault := some (s.fault.getD f) }) ∧
  (∀ (i : Instr) (s t : State) (f : Fault), s.fault = some f → exec i s = .next t → t.fault = some f) ∧
  (∀ (s t : State) (f : Fault), s.fault = some f → step s = .next t → t.fault = some f)

/-- R122, R123, R124: a fault is recorded exactly by a TAKE of an incomplete byte and by a START while busy. -/
def Obligations.FaultOnlyFromBrokenContract : Prop :=
  ∀ (i : Instr) (s t : State), s.fault = none → exec i s = .next t →
    t.fault = match i with
      | .take => if s.needed = 0 then none else some (.underrun s.needed)
      | .start p _ _ => if s.inflight then some (.startWhileBusy p) else none
      | .nop | .work | .workW1 | .workW2 | .workW3 | .workW4 | .workW5 | .workW6 | .ready | .done
      | .descriptorFor _ => none

/-- R55, R125: only START writes `MSG`, so the message holds still during a transmission and `MessageChanged` is never
recorded. -/
def Obligations.MessageHoldsStill : Prop :=
  (∀ (i : Instr) (s t : State), isStart i = false → exec i s = .next t → ∀ a, t.msg.read a = s.msg.read a) ∧
  (∀ s t : State, s.fault ≠ some .messageChanged → step s = .next t → t.fault ≠ some .messageChanged)

/-- R123 to R126: a script that keeps the contract records no fault. -/
def Obligations.ContractKeepingRunHasNoFault : Prop :=
  ∀ (is : List Instr) (s t : State), KeepsContract is s → s.fault = none → runScript is s = .next t → t.fault = none

/-! ## Whole transmissions -/

/-- After a START that keeps the contract, in a run with no fault recorded, what the block still has to deliver is the
stream of the request (R110, R111). After a START while busy nothing is claimed (R85). -/
def Obligations.StartPendsTheStream : Prop :=
  ∀ (p : Byte) (m : Message) (n : Byte) (s : State), s.inflight = false → s.fault = none →
    Satisfies [.start p m n] s fun t =>
      pendingTakes Config.device.params t = streamTakes Config.device.params p m n

/-- A work step never changes what the block still has to deliver. -/
def Obligations.WorkKeepsPending : Prop :=
  ∀ (i : Instr) (s t : State), RangeInv s → FlowInv s → s.inflight = true → isWork i = true → exec i s = .next t →
    pendingTakes Config.device.params t = pendingTakes Config.device.params s

/-- A TAKE of a complete byte delivers the first of what is pending and leaves the rest. -/
def Obligations.TakeDeliversNextPending : Prop :=
  ∀ s t : State, s.needed = 0 → exec .take s = .next t →
    pendingTakes Config.device.params s = (s.out, doneFlag s) :: pendingTakes Config.device.params t

/-- R111 (inferred by the spec): in a transmission that keeps the contract the TAKEs return exactly the stream, in
order, `done` 1 with the sentinel byte only; START returns the tick period. -/
def Obligations.StreamLaw : Prop :=
  ∀ (p : Byte) (m : Message) (n : Byte) (is : List Instr) (s t : State), noStart is = true →
    KeepsContract (.start p m n :: is) s → runScript (.start p m n :: is) s = .next t →
    bytesTaken t.trace = bytesTaken s.trace ++ (streamTakes Config.device.params p m n).take (takes is) ∧
    takes is ≤ (streamTakes Config.device.params p m n).length ∧
    t.inflight = decide (takes is < (streamTakes Config.device.params p m n).length) ∧
    ∃ es, t.trace = es ++ .tick (descriptorFor Config.device.params p).tickPeriod :: s.trace

/-- R116 (inferred by the spec): `Complete` is emitted exactly once per START, by the TAKE that ends the
transmission. -/
def Obligations.CompletionExactlyOnce : Prop :=
  ∀ (p : Byte) (m : Message) (n : Byte) (is : List Instr) (s t : State), noStart is = true →
    KeepsContract (.start p m n :: is) s → runScript (.start p m n :: is) s = .next t →
    completions t.trace = completions s.trace + if t.inflight then 0 else 1

/-- R71, and R113 and R152 (inferred by the spec): `SEND` terminates, delivers the whole stream, completes once and
records no fault. -/
def Obligations.SendDeliversWholeStream : Prop :=
  ∀ (p : Byte) (m : Message) (n : Byte) (s : State), s.inflight = false →
    ∃ t, send p m n s = .next t ∧ t.inflight = false ∧ t.fault = s.fault ∧
      bytesTaken t.trace = bytesTaken s.trace ++ streamTakes Config.device.params p m n ∧
      completions t.trace = completions s.trace + 1

/-- R113 (inferred by the spec): the number of bytes of a transmission, and its bounds. -/
def Obligations.StreamLength : Prop :=
  ∀ (p : Byte) (m : Message) (n : Byte) (d : Descriptor), d = descriptorFor Config.device.params p →
    (streamTakes Config.device.params p m n).length =
      d.preLen.toNat + (payloadBits d m (min n.toNat 128)).length / 8 + 3 ∧
    3 ≤ (streamTakes Config.device.params p m n).length ∧ (streamTakes Config.device.params p m n).length ≤ 162

/-- R112 (inferred by the spec): every stream ends in two zero bytes, and in three when the payload fills whole
bytes. -/
def Obligations.StreamEndsInZeros : Prop :=
  ∀ (p : Byte) (m : Message) (n : Byte) (d : Descriptor), d = descriptorFor Config.device.params p →
    (∃ front, streamTakes Config.device.params p m n = front ++ [(0x00, false), (0x00, true)]) ∧
    ((payloadBits d m (min n.toNat 128)).length % 8 = 0 →
      ∃ front, streamTakes Config.device.params p m n = front ++ [(0x00, false), (0x00, false), (0x00, true)])

/-- R114 (inferred by the spec): a transmission performs exactly `W` work steps that are not no-ops before its
completing TAKE, at most 1201. -/
def Obligations.WorkStepCount : Prop :=
  ∀ (p : Byte) (m : Message) (n : Byte) (is : List Instr) (s t : State) (d : Descriptor),
    d = descriptorFor Config.device.params p → noStart is = true →
    KeepsContract (.start p m n :: (is ++ [.take])) s → runScript (.start p m n :: (is ++ [.take])) s = .next t →
    t.inflight = false →
    effectiveWorks (.start p m n :: (is ++ [.take])) s = workSteps d m (min n.toNat 128) ∧
    workSteps d m (min n.toNat 128) ≤ 1201

/-- R118 (inferred by the spec): a zero-length message is the preamble and three zero bytes; in a run that keeps the
contract and has no fault recorded no message byte is ever fetched, and without a preamble the first action enters the
flush. After a START while busy or an early TAKE nothing is claimed (R85, R103). -/
def Obligations.ZeroLengthMessage : Prop :=
  ∀ (p : Byte) (m : Message) (s : State) (d : Descriptor), d = descriptorFor Config.device.params p →
    s.inflight = false → s.fault = none →
    streamTakes Config.device.params p m 0 =
      (preambleBytes Config.device.params d).map (fun b => (b, false)) ++
        [(0x00, false), (0x00, false), (0x00, true)] ∧
    (Satisfies [.start p m 0] s fun t => selectAction t = if d.preLen = 0 then .w5 else .w2) ∧
    ∀ is : List Instr, noStart is = true → KeepsContract (.start p m 0 :: is) s →
      Satisfies (.start p m 0 :: is) s fun u => u.mbit = 0 ∧ u.mbyte = 0

/-- R121 (inferred by the spec): the bytes, the work done and the state at a TAKE do not depend on how the WORKs,
TAKEs, NOPs and status reads of a contract-keeping script are interleaved. -/
def Obligations.ScheduleIndependence : Prop :=
  ∀ (is js : List Instr) (s t u : State), noStart is = true → noStart js = true → takes is = takes js →
    KeepsContract (is ++ [.take]) s → KeepsContract (js ++ [.take]) s →
    runScript (is ++ [.take]) s = .next t → runScript (js ++ [.take]) s = .next u →
    { t with trace := [] } = { u with trace := [] } ∧ bytesTaken t.trace = bytesTaken u.trace ∧
      effectiveWorks (is ++ [.take]) s = effectiveWorks (js ++ [.take]) s

/-! ## Runs with a recorded fault -/

/-- R85, R127: a run with a recorded fault satisfies no postcondition, be it a script with a START while busy or an
early TAKE in it, a script from a state with a fault recorded, or steps from such a state. A script that keeps the
contract from a state with no fault recorded satisfies what its end state shows. -/
def Obligations.FaultedRunSatisfiesNothing : Prop :=
  (∀ (is js : List Instr) (p : Byte) (m : Message) (n : Byte) (s u : State) (post : State → Prop),
    runScript is s = .next u → u.inflight = true → ¬ Satisfies (is ++ .start p m n :: js) s post) ∧
  (∀ (is js : List Instr) (s u : State) (post : State → Prop),
    runScript is s = .next u → u.needed ≠ 0 → ¬ Satisfies (is ++ .take :: js) s post) ∧
  (∀ (is : List Instr) (s : State) (post : State → Prop), s.fault ≠ none → ¬ Satisfies is s post) ∧
  (∀ (k : Nat) (s t : State) (post : State → Prop), s.fault ≠ none →
    Host.Core.run core k s = .next t → ¬ Holds post t) ∧
  (∀ (is : List Instr) (s : State) (post : State → Prop), KeepsContract is s → s.fault = none →
    (Satisfies is s post ↔ ∃ t, runScript is s = .next t ∧ post t))
end

