-- ==== Sys2Proof/Laws/Operands.lean ====
section
/-! SUPPORT. The operand forms and bit operations as numbers and bits (R67, R98). -/

namespace Sys2Proof.Machine

@[simp] theorem clampLength_toNat (n : Byte) : (clampLength n).toNat = min n.toNat 128 := by
  simp only [clampLength, msgBits]
  split <;> rename_i h
  · omega
  · rw [BitVec.toNat_ofNat]
    omega

@[simp] theorem symbolCount_toNat (len : BitVec 4) : (symbolCount len).toNat = len.toNat := by
  simp only [symbolCount, BitVec.toNat_setWidth]
  omega

/-- The flush length never wraps: `NEEDED` has 4 bits. -/
@[simp] theorem flushCount_toNat (needed : BitVec 4) : (flushCount needed).toNat = needed.toNat + 8 := by
  simp only [flushCount, BitVec.toNat_add, BitVec.toNat_setWidth, BitVec.toNat_ofNat]
  omega

theorem selectorIndex_lt (p : Byte) : selectorIndex p < 9 := Nat.mod_lt _ (by decide)

theorem byteAligned_iff (mbit : BitVec 8) : byteAligned mbit = true ↔ mbit.toNat % 8 = 0 := by
  simp [byteAligned, ← BitVec.toNat_inj]

/-- Bit 0 of a shifted byte is the entering bit, bit `j + 1` the old bit `j`. -/
theorem getLsbD_shiftIn (v : Byte) (b : Bool) (j : Nat) :
    (shiftIn v b).getLsbD j = if j = 0 then b else decide (j < 8) && v.getLsbD (j - 1) := by
  cases j with
  | zero => simp [shiftIn]
  | succ j =>
    simp only [shiftIn, BitVec.getLsbD_concat, BitVec.getLsbD_extractLsb']
    by_cases h : j < 7 <;> simp [h, Nat.succ_lt_succ_iff]

/-- A shifted byte as a number: the old top bit is lost. -/
theorem shiftIn_toNat (v : Byte) (b : Bool) : (shiftIn v b).toNat = (2 * v.toNat + b.toNat) % 256 := by
  simp only [shiftIn, BitVec.toNat_concat, BitVec.extractLsb'_toNat]
  cases b <;> simp <;> omega

/-- Shifting a zero in is the left shift by one (R11). -/
theorem shiftIn_false (v : Byte) : shiftIn v false = v <<< 1 := by
  ext j hj
  rw [← BitVec.getLsbD_eq_getElem, getLsbD_shiftIn, ← BitVec.getLsbD_eq_getElem, BitVec.getLsbD_shiftLeft]
  rcases j with _ | j <;> simp [hj]

/-- Bit `7 - r` of message byte `i` is message bit `8 i + r` (R12). -/
theorem getLsbD_messageByte (m : Message) {i r : Nat} (hi : i < 16) (hr : r < 8) :
    (messageByte m i).getLsbD (7 - r) = messageBit m (8 * i + r) := by
  simp only [messageByte, messageBit, BitVec.getLsbD_extractLsb']
  have h : 120 - 8 * i + (7 - r) = 127 - (8 * i + r) := by omega
  simp [h, show 7 - r < 8 by omega]

end Sys2Proof.Machine
end

