-- ==== Sys2Proof/Laws/Config.lean ====
section
/-! SUPPORT. What well-formedness gives of a configuration, clause by clause (R7), and that the reads of `CATALOG` and
`POOL` are in range (R56). -/

namespace Sys2Proof.Machine

theorem wf_clauses {c : Parameters} (h : c.wf = true) :
    c.catalog.length = 9 ∧ c.pool.length = 31 ∧
      (∀ d ∈ c.catalog, (1 ≤ d.zeroLen.toNat ∧ d.zeroLen.toNat ≤ 8) ∧ (1 ≤ d.oneLen.toNat ∧ d.oneLen.toNat ≤ 8)) ∧
      (∀ d ∈ c.catalog, d.preOff.toNat + d.preLen.toNat ≤ 31) ∧
      (∀ d ∈ c.catalog, d.tickPeriod < 2 ^ c.tickW) := by
  simp only [Parameters.wf, Parameters.catalogSizeOk, Parameters.poolSizeOk, Parameters.symbolsOk,
    Parameters.windowsInPool, Parameters.ticksOk, symbolLengthOk, Bool.and_eq_true, beq_iff_eq, List.all_eq_true,
    decide_eq_true_eq] at h
  exact ⟨h.1.1.1.1.1, h.1.1.1.1.2, h.1.1.1.2, h.1.1.2, h.2⟩

theorem device_wf : Config.device.params.wf = true := Config.device.wf

/-- The lookup reads the catalog at the folded selector; its default is never used (R75, R56). -/
theorem catalog_lookup {c : Parameters} (h : c.wf = true) (index : Byte) :
    c.catalog[index.toNat % 9]? = some (descriptorFor c index) := by
  have hlt : index.toNat % 9 < c.catalog.length := by
    rw [(wf_clauses h).1]; exact selectorIndex_lt index
  rw [descriptorFor, selectorIndex, List.getD_eq_getElem?_getD, List.getElem?_eq_getElem hlt, Option.getD_some]

theorem descriptorFor_mem {c : Parameters} (h : c.wf = true) (index : Byte) : descriptorFor c index ∈ c.catalog :=
  List.mem_of_getElem? (catalog_lookup h index)

/-- A pool read inside the pool; its default is never used (R56). -/
theorem pool_lookup {c : Parameters} (h : c.wf = true) {i : BitVec 5} (hi : i.toNat < 31) :
    c.pool[i.toNat]? = some (poolRead c i) := by
  have hlt : i.toNat < c.pool.length := by rw [(wf_clauses h).2.1]; exact hi
  rw [poolRead, List.getD_eq_getElem?_getD, List.getElem?_eq_getElem hlt, Option.getD_some]

end Sys2Proof.Machine
end

