-- ==== Sys2Proof/Laws/Decode.lean ====
section
/-! SUPPORT. The port word as a number, and the code of what a sample presents (R63, R65). -/

namespace Sys2Proof

/-- The port word lays the ports one above the other, `cmd` lowest (log entry 1). -/
theorem toWord_toNat (p : PortSample) : p.toWord.toNat =
    p.cmd.toNat + 4 * (p.protocolIndex.toNat + 256 * (p.bitLength.toNat + 256 *
      (p.message.toNat + 2 ^ 128 * p.reset.toNat))) := by
  have h : p.toWord.toNat =
      (BitVec.ofBool p.reset ++ p.message ++ p.bitLength ++ p.protocolIndex ++ p.cmd).toNat := rfl
  rw [h]
  simp only [BitVec.toNat_append, BitVec.toNat_ofBool]
  rw [← Nat.shiftLeft_add_eq_or_of_lt p.message.isLt, ← Nat.shiftLeft_add_eq_or_of_lt p.bitLength.isLt,
    ← Nat.shiftLeft_add_eq_or_of_lt p.protocolIndex.isLt, ← Nat.shiftLeft_add_eq_or_of_lt p.cmd.isLt]
  simp only [Nat.shiftLeft_eq]
  omega

/-- The command decoded from a sample has the sample's code (R63). -/
theorem decode_code (p : PortSample) : (decode p).code = p.cmd := by
  have h : ∀ c : BitVec 2, c = 0b00#2 ∨ c = 0b01#2 ∨ c = 0b10#2 ∨ c = 0b11#2 := by decide
  rcases h p.cmd with h | h | h | h <;> simp [decode, h, Instr.code]

end Sys2Proof
end

