-- ==== Sys2Proof/Laws/Memory.lean ====
section
/-! SUPPORT. The laws of `MSG`: the canonical form holds of the empty buffer and of every loaded message, and a loaded
message reads back byte by byte (R43, R82). -/

namespace Sys2Proof.Machine

theorem memory_wf_nil : Memory.wf [] := ⟨.nil, nofun⟩

/-- Loading a message gives the canonical form, whatever was in the buffer. -/
theorem ofMessage_wf (m : Message) : (Memory.ofMessage m).wf := by
  constructor
  · refine List.Pairwise.filterMap _ (R := (· < ·)) ?_ List.pairwise_lt_range
    intro i j hij a ha b hb
    simp only [Option.ite_none_left_eq_some, Option.some.injEq] at ha hb
    simpa [← ha.2, ← hb.2] using hij
  · intro c hc
    simp only [Memory.ofMessage, List.mem_filterMap, List.mem_range, Option.ite_none_left_eq_some,
      Option.some.injEq] at hc
    obtain ⟨i, hi, hne, rfl⟩ := hc
    exact ⟨hi, hne⟩

/-- Reading a list of cells that holds, for each listed address, its byte unless that is the unlisted byte. -/
theorem read_filterMap (b : Nat → Byte) (l : List Nat) (a : Nat) :
    Memory.read (l.filterMap fun i => if b i = Memory.unlisted then none else some (i, b i)) a =
      if a ∈ l then b a else Memory.unlisted := by
  induction l with
  | nil => rfl
  | cons i l ih =>
    by_cases hb : b i = Memory.unlisted
    · rw [List.filterMap_cons_none (by simp [hb]), ih]
      by_cases hai : a = i
      · subst hai; simp [hb]
      · simp [hai]
    · rw [List.filterMap_cons_some (b := (i, b i)) (by simp [hb])]
      by_cases hai : a = i
      · subst hai; simp [Memory.read]
      · have hne : (a == i) = false := by simpa using hai
        simp only [Memory.read, List.lookup_cons, hne] at ih ⊢
        simpa [hai] using ih

/-- A loaded message reads back (R82); addresses past the buffer read as the unlisted byte. -/
theorem read_ofMessage (m : Message) (a : Nat) :
    (Memory.ofMessage m).read a = if a < 16 then messageByte m a else Memory.unlisted := by
  rw [Memory.ofMessage, read_filterMap]
  simp

/-- A canonical buffer holds nothing past its 16 cells. -/
theorem read_past_end {m : Memory} (h : m.wf) {a : Nat} (ha : 16 ≤ a) : m.read a = Memory.unlisted := by
  have : m.lookup a = none := by
    rw [List.lookup_eq_none_iff]
    intro c hc
    have hc : c.1 < 16 := (h.2 c hc).1
    have hne : a ≠ c.1 := by omega
    simpa using hne
  simp [Memory.read, this]

end Sys2Proof.Machine
end

