-- ==== Sys2Proof/Laws/State.lean ====
section
/-! SUPPORT. One lemma per field for each update of the state, so that no later proof unfolds an update. -/

namespace Sys2Proof.Machine

/-! ### `emit` writes only the run record -/

@[simp] theorem emit_zlen (e : Event) (s : State) : (emit e s).zlen = s.zlen := rfl
@[simp] theorem emit_zpat (e : Event) (s : State) : (emit e s).zpat = s.zpat := rfl
@[simp] theorem emit_olen (e : Event) (s : State) : (emit e s).olen = s.olen := rfl
@[simp] theorem emit_opat (e : Event) (s : State) : (emit e s).opat = s.opat := rfl
@[simp] theorem emit_pcur (e : Event) (s : State) : (emit e s).pcur = s.pcur := rfl
@[simp] theorem emit_prem (e : Event) (s : State) : (emit e s).prem = s.prem := rfl
@[simp] theorem emit_alen (e : Event) (s : State) : (emit e s).alen = s.alen := rfl
@[simp] theorem emit_apat (e : Event) (s : State) : (emit e s).apat = s.apat := rfl
@[simp] theorem emit_mbyte (e : Event) (s : State) : (emit e s).mbyte = s.mbyte := rfl
@[simp] theorem emit_mbit (e : Event) (s : State) : (emit e s).mbit = s.mbit := rfl
@[simp] theorem emit_msr (e : Event) (s : State) : (emit e s).msr = s.msr := rfl
@[simp] theorem emit_out (e : Event) (s : State) : (emit e s).out = s.out := rfl
@[simp] theorem emit_needed (e : Event) (s : State) : (emit e s).needed = s.needed := rfl
@[simp] theorem emit_bitlen (e : Event) (s : State) : (emit e s).bitlen = s.bitlen := rfl
@[simp] theorem emit_tick (e : Event) (s : State) : (emit e s).tick = s.tick := rfl
@[simp] theorem emit_msg (e : Event) (s : State) : (emit e s).msg = s.msg := rfl
@[simp] theorem emit_inflight (e : Event) (s : State) : (emit e s).inflight = s.inflight := rfl
@[simp] theorem emit_fault (e : Event) (s : State) : (emit e s).fault = s.fault := rfl
@[simp] theorem emit_trace (e : Event) (s : State) : (emit e s).trace = e :: s.trace := rfl
@[simp] theorem emit_input (e : Event) (s : State) : (emit e s).input = s.input := rfl
@[simp] theorem emit_resets (e : Event) (s : State) : (emit e s).resets = s.resets := rfl

/-! ### `raise` writes only the fault mark -/

@[simp] theorem raise_zlen (f : Fault) (s : State) : (raise f s).zlen = s.zlen := rfl
@[simp] theorem raise_zpat (f : Fault) (s : State) : (raise f s).zpat = s.zpat := rfl
@[simp] theorem raise_olen (f : Fault) (s : State) : (raise f s).olen = s.olen := rfl
@[simp] theorem raise_opat (f : Fault) (s : State) : (raise f s).opat = s.opat := rfl
@[simp] theorem raise_pcur (f : Fault) (s : State) : (raise f s).pcur = s.pcur := rfl
@[simp] theorem raise_prem (f : Fault) (s : State) : (raise f s).prem = s.prem := rfl
@[simp] theorem raise_alen (f : Fault) (s : State) : (raise f s).alen = s.alen := rfl
@[simp] theorem raise_apat (f : Fault) (s : State) : (raise f s).apat = s.apat := rfl
@[simp] theorem raise_mbyte (f : Fault) (s : State) : (raise f s).mbyte = s.mbyte := rfl
@[simp] theorem raise_mbit (f : Fault) (s : State) : (raise f s).mbit = s.mbit := rfl
@[simp] theorem raise_msr (f : Fault) (s : State) : (raise f s).msr = s.msr := rfl
@[simp] theorem raise_out (f : Fault) (s : State) : (raise f s).out = s.out := rfl
@[simp] theorem raise_needed (f : Fault) (s : State) : (raise f s).needed = s.needed := rfl
@[simp] theorem raise_bitlen (f : Fault) (s : State) : (raise f s).bitlen = s.bitlen := rfl
@[simp] theorem raise_tick (f : Fault) (s : State) : (raise f s).tick = s.tick := rfl
@[simp] theorem raise_msg (f : Fault) (s : State) : (raise f s).msg = s.msg := rfl
@[simp] theorem raise_inflight (f : Fault) (s : State) : (raise f s).inflight = s.inflight := rfl
@[simp] theorem raise_fault (f : Fault) (s : State) : (raise f s).fault = s.fault.or (some f) := rfl
@[simp] theorem raise_trace (f : Fault) (s : State) : (raise f s).trace = s.trace := rfl
@[simp] theorem raise_input (f : Fault) (s : State) : (raise f s).input = s.input := rfl
@[simp] theorem raise_resets (f : Fault) (s : State) : (raise f s).resets = s.resets := rfl

/-! ### `raiseIf` writes only the fault mark -/

@[simp] theorem raiseIf_zlen (b : Bool) (f : Fault) (s : State) : (raiseIf b f s).zlen = s.zlen := by
  cases b <;> rfl
@[simp] theorem raiseIf_zpat (b : Bool) (f : Fault) (s : State) : (raiseIf b f s).zpat = s.zpat := by
  cases b <;> rfl
@[simp] theorem raiseIf_olen (b : Bool) (f : Fault) (s : State) : (raiseIf b f s).olen = s.olen := by
  cases b <;> rfl
@[simp] theorem raiseIf_opat (b : Bool) (f : Fault) (s : State) : (raiseIf b f s).opat = s.opat := by
  cases b <;> rfl
@[simp] theorem raiseIf_pcur (b : Bool) (f : Fault) (s : State) : (raiseIf b f s).pcur = s.pcur := by
  cases b <;> rfl
@[simp] theorem raiseIf_prem (b : Bool) (f : Fault) (s : State) : (raiseIf b f s).prem = s.prem := by
  cases b <;> rfl
@[simp] theorem raiseIf_alen (b : Bool) (f : Fault) (s : State) : (raiseIf b f s).alen = s.alen := by
  cases b <;> rfl
@[simp] theorem raiseIf_apat (b : Bool) (f : Fault) (s : State) : (raiseIf b f s).apat = s.apat := by
  cases b <;> rfl
@[simp] theorem raiseIf_mbyte (b : Bool) (f : Fault) (s : State) : (raiseIf b f s).mbyte = s.mbyte := by
  cases b <;> rfl
@[simp] theorem raiseIf_mbit (b : Bool) (f : Fault) (s : State) : (raiseIf b f s).mbit = s.mbit := by
  cases b <;> rfl
@[simp] theorem raiseIf_msr (b : Bool) (f : Fault) (s : State) : (raiseIf b f s).msr = s.msr := by
  cases b <;> rfl
@[simp] theorem raiseIf_out (b : Bool) (f : Fault) (s : State) : (raiseIf b f s).out = s.out := by
  cases b <;> rfl
@[simp] theorem raiseIf_needed (b : Bool) (f : Fault) (s : State) : (raiseIf b f s).needed = s.needed := by
  cases b <;> rfl
@[simp] theorem raiseIf_bitlen (b : Bool) (f : Fault) (s : State) : (raiseIf b f s).bitlen = s.bitlen := by
  cases b <;> rfl
@[simp] theorem raiseIf_tick (b : Bool) (f : Fault) (s : State) : (raiseIf b f s).tick = s.tick := by
  cases b <;> rfl
@[simp] theorem raiseIf_msg (b : Bool) (f : Fault) (s : State) : (raiseIf b f s).msg = s.msg := by
  cases b <;> rfl
@[simp] theorem raiseIf_inflight (b : Bool) (f : Fault) (s : State) : (raiseIf b f s).inflight = s.inflight := by
  cases b <;> rfl
@[simp] theorem raiseIf_fault (b : Bool) (f : Fault) (s : State) : (raiseIf b f s).fault = if b then s.fault.or (some f) else s.fault := by
  cases b <;> rfl
@[simp] theorem raiseIf_trace (b : Bool) (f : Fault) (s : State) : (raiseIf b f s).trace = s.trace := by
  cases b <;> rfl
@[simp] theorem raiseIf_input (b : Bool) (f : Fault) (s : State) : (raiseIf b f s).input = s.input := by
  cases b <;> rfl
@[simp] theorem raiseIf_resets (b : Bool) (f : Fault) (s : State) : (raiseIf b f s).resets = s.resets := by
  cases b <;> rfl

/-! ### `completeIf` writes only `INFLIGHT` and the run record -/

@[simp] theorem completeIf_zlen (b : Bool) (s : State) : (completeIf b s).zlen = s.zlen := by
  cases b <;> rfl
@[simp] theorem completeIf_zpat (b : Bool) (s : State) : (completeIf b s).zpat = s.zpat := by
  cases b <;> rfl
@[simp] theorem completeIf_olen (b : Bool) (s : State) : (completeIf b s).olen = s.olen := by
  cases b <;> rfl
@[simp] theorem completeIf_opat (b : Bool) (s : State) : (completeIf b s).opat = s.opat := by
  cases b <;> rfl
@[simp] theorem completeIf_pcur (b : Bool) (s : State) : (completeIf b s).pcur = s.pcur := by
  cases b <;> rfl
@[simp] theorem completeIf_prem (b : Bool) (s : State) : (completeIf b s).prem = s.prem := by
  cases b <;> rfl
@[simp] theorem completeIf_alen (b : Bool) (s : State) : (completeIf b s).alen = s.alen := by
  cases b <;> rfl
@[simp] theorem completeIf_apat (b : Bool) (s : State) : (completeIf b s).apat = s.apat := by
  cases b <;> rfl
@[simp] theorem completeIf_mbyte (b : Bool) (s : State) : (completeIf b s).mbyte = s.mbyte := by
  cases b <;> rfl
@[simp] theorem completeIf_mbit (b : Bool) (s : State) : (completeIf b s).mbit = s.mbit := by
  cases b <;> rfl
@[simp] theorem completeIf_msr (b : Bool) (s : State) : (completeIf b s).msr = s.msr := by
  cases b <;> rfl
@[simp] theorem completeIf_out (b : Bool) (s : State) : (completeIf b s).out = s.out := by
  cases b <;> rfl
@[simp] theorem completeIf_needed (b : Bool) (s : State) : (completeIf b s).needed = s.needed := by
  cases b <;> rfl
@[simp] theorem completeIf_bitlen (b : Bool) (s : State) : (completeIf b s).bitlen = s.bitlen := by
  cases b <;> rfl
@[simp] theorem completeIf_tick (b : Bool) (s : State) : (completeIf b s).tick = s.tick := by
  cases b <;> rfl
@[simp] theorem completeIf_msg (b : Bool) (s : State) : (completeIf b s).msg = s.msg := by
  cases b <;> rfl
@[simp] theorem completeIf_inflight (b : Bool) (s : State) : (completeIf b s).inflight = (!b && s.inflight) := by
  cases b <;> rfl
@[simp] theorem completeIf_fault (b : Bool) (s : State) : (completeIf b s).fault = s.fault := by
  cases b <;> rfl
@[simp] theorem completeIf_trace (b : Bool) (s : State) : (completeIf b s).trace = if b then .complete :: s.trace else s.trace := by
  cases b <;> rfl
@[simp] theorem completeIf_input (b : Bool) (s : State) : (completeIf b s).input = s.input := by
  cases b <;> rfl
@[simp] theorem completeIf_resets (b : Bool) (s : State) : (completeIf b s).resets = s.resets := by
  cases b <;> rfl

/-! ### `loadTransmission` writes the registers START writes (R81) -/

@[simp] theorem loadTransmission_zlen (d : Descriptor) (m : Message) (n : Byte) (s : State) : (loadTransmission d m n s).zlen = d.zeroLen := rfl
@[simp] theorem loadTransmission_zpat (d : Descriptor) (m : Message) (n : Byte) (s : State) : (loadTransmission d m n s).zpat = d.zeroPat := rfl
@[simp] theorem loadTransmission_olen (d : Descriptor) (m : Message) (n : Byte) (s : State) : (loadTransmission d m n s).olen = d.oneLen := rfl
@[simp] theorem loadTransmission_opat (d : Descriptor) (m : Message) (n : Byte) (s : State) : (loadTransmission d m n s).opat = d.onePat := rfl
@[simp] theorem loadTransmission_pcur (d : Descriptor) (m : Message) (n : Byte) (s : State) : (loadTransmission d m n s).pcur = d.preOff := rfl
@[simp] theorem loadTransmission_prem (d : Descriptor) (m : Message) (n : Byte) (s : State) : (loadTransmission d m n s).prem = d.preLen := rfl
@[simp] theorem loadTransmission_alen (d : Descriptor) (m : Message) (n : Byte) (s : State) : (loadTransmission d m n s).alen = 0 := rfl
@[simp] theorem loadTransmission_apat (d : Descriptor) (m : Message) (n : Byte) (s : State) : (loadTransmission d m n s).apat = s.apat := rfl
@[simp] theorem loadTransmission_mbyte (d : Descriptor) (m : Message) (n : Byte) (s : State) : (loadTransmission d m n s).mbyte = 0 := rfl
@[simp] theorem loadTransmission_mbit (d : Descriptor) (m : Message) (n : Byte) (s : State) : (loadTransmission d m n s).mbit = 0 := rfl
@[simp] theorem loadTransmission_msr (d : Descriptor) (m : Message) (n : Byte) (s : State) : (loadTransmission d m n s).msr = s.msr := rfl
@[simp] theorem loadTransmission_out (d : Descriptor) (m : Message) (n : Byte) (s : State) : (loadTransmission d m n s).out = s.out := rfl
@[simp] theorem loadTransmission_needed (d : Descriptor) (m : Message) (n : Byte) (s : State) : (loadTransmission d m n s).needed = 8 := rfl
@[simp] theorem loadTransmission_bitlen (d : Descriptor) (m : Message) (n : Byte) (s : State) : (loadTransmission d m n s).bitlen = clampLength n := rfl
@[simp] theorem loadTransmission_tick (d : Descriptor) (m : Message) (n : Byte) (s : State) : (loadTransmission d m n s).tick = d.tickPeriod := rfl
@[simp] theorem loadTransmission_msg (d : Descriptor) (m : Message) (n : Byte) (s : State) : (loadTransmission d m n s).msg = Memory.ofMessage m := rfl
@[simp] theorem loadTransmission_inflight (d : Descriptor) (m : Message) (n : Byte) (s : State) : (loadTransmission d m n s).inflight = true := rfl
@[simp] theorem loadTransmission_fault (d : Descriptor) (m : Message) (n : Byte) (s : State) : (loadTransmission d m n s).fault = s.fault := rfl
@[simp] theorem loadTransmission_trace (d : Descriptor) (m : Message) (n : Byte) (s : State) : (loadTransmission d m n s).trace = s.trace := rfl
@[simp] theorem loadTransmission_input (d : Descriptor) (m : Message) (n : Byte) (s : State) : (loadTransmission d m n s).input = s.input := rfl
@[simp] theorem loadTransmission_resets (d : Descriptor) (m : Message) (n : Byte) (s : State) : (loadTransmission d m n s).resets = s.resets := rfl

/-! ### The six actions (R91 to R96) -/

@[simp] theorem actW1_zlen (s : State) : (actW1 s).zlen = s.zlen := rfl
@[simp] theorem actW1_zpat (s : State) : (actW1 s).zpat = s.zpat := rfl
@[simp] theorem actW1_olen (s : State) : (actW1 s).olen = s.olen := rfl
@[simp] theorem actW1_opat (s : State) : (actW1 s).opat = s.opat := rfl
@[simp] theorem actW1_pcur (s : State) : (actW1 s).pcur = s.pcur := rfl
@[simp] theorem actW1_prem (s : State) : (actW1 s).prem = s.prem := rfl
@[simp] theorem actW1_alen (s : State) : (actW1 s).alen = s.alen := rfl
@[simp] theorem actW1_apat (s : State) : (actW1 s).apat = s.apat := rfl
@[simp] theorem actW1_mbyte (s : State) : (actW1 s).mbyte = s.mbyte := rfl
@[simp] theorem actW1_mbit (s : State) : (actW1 s).mbit = s.mbit := rfl
@[simp] theorem actW1_msr (s : State) : (actW1 s).msr = s.msr := rfl
@[simp] theorem actW1_out (s : State) : (actW1 s).out = s.out := rfl
@[simp] theorem actW1_needed (s : State) : (actW1 s).needed = s.needed := rfl
@[simp] theorem actW1_bitlen (s : State) : (actW1 s).bitlen = s.bitlen := rfl
@[simp] theorem actW1_tick (s : State) : (actW1 s).tick = s.tick := rfl
@[simp] theorem actW1_msg (s : State) : (actW1 s).msg = s.msg := rfl
@[simp] theorem actW1_inflight (s : State) : (actW1 s).inflight = s.inflight := rfl
@[simp] theorem actW1_fault (s : State) : (actW1 s).fault = s.fault := rfl
@[simp] theorem actW1_trace (s : State) : (actW1 s).trace = s.trace := rfl
@[simp] theorem actW1_input (s : State) : (actW1 s).input = s.input := rfl
@[simp] theorem actW1_resets (s : State) : (actW1 s).resets = s.resets := rfl

@[simp] theorem actW2_zlen (c : Parameters) (s : State) : (actW2 c s).zlen = s.zlen := rfl
@[simp] theorem actW2_zpat (c : Parameters) (s : State) : (actW2 c s).zpat = s.zpat := rfl
@[simp] theorem actW2_olen (c : Parameters) (s : State) : (actW2 c s).olen = s.olen := rfl
@[simp] theorem actW2_opat (c : Parameters) (s : State) : (actW2 c s).opat = s.opat := rfl
@[simp] theorem actW2_pcur (c : Parameters) (s : State) : (actW2 c s).pcur = s.pcur + 1 := rfl
@[simp] theorem actW2_prem (c : Parameters) (s : State) : (actW2 c s).prem = s.prem - 1 := rfl
@[simp] theorem actW2_alen (c : Parameters) (s : State) : (actW2 c s).alen = s.alen := rfl
@[simp] theorem actW2_apat (c : Parameters) (s : State) : (actW2 c s).apat = s.apat := rfl
@[simp] theorem actW2_mbyte (c : Parameters) (s : State) : (actW2 c s).mbyte = s.mbyte := rfl
@[simp] theorem actW2_mbit (c : Parameters) (s : State) : (actW2 c s).mbit = s.mbit := rfl
@[simp] theorem actW2_msr (c : Parameters) (s : State) : (actW2 c s).msr = s.msr := rfl
@[simp] theorem actW2_out (c : Parameters) (s : State) : (actW2 c s).out = poolRead c s.pcur := rfl
@[simp] theorem actW2_needed (c : Parameters) (s : State) : (actW2 c s).needed = 0 := rfl
@[simp] theorem actW2_bitlen (c : Parameters) (s : State) : (actW2 c s).bitlen = s.bitlen := rfl
@[simp] theorem actW2_tick (c : Parameters) (s : State) : (actW2 c s).tick = s.tick := rfl
@[simp] theorem actW2_msg (c : Parameters) (s : State) : (actW2 c s).msg = s.msg := rfl
@[simp] theorem actW2_inflight (c : Parameters) (s : State) : (actW2 c s).inflight = s.inflight := rfl
@[simp] theorem actW2_fault (c : Parameters) (s : State) : (actW2 c s).fault = s.fault := rfl
@[simp] theorem actW2_trace (c : Parameters) (s : State) : (actW2 c s).trace = s.trace := rfl
@[simp] theorem actW2_input (c : Parameters) (s : State) : (actW2 c s).input = s.input := rfl
@[simp] theorem actW2_resets (c : Parameters) (s : State) : (actW2 c s).resets = s.resets := rfl

@[simp] theorem actW3_zlen (s : State) : (actW3 s).zlen = s.zlen := rfl
@[simp] theorem actW3_zpat (s : State) : (actW3 s).zpat = s.zpat := rfl
@[simp] theorem actW3_olen (s : State) : (actW3 s).olen = s.olen := rfl
@[simp] theorem actW3_opat (s : State) : (actW3 s).opat = s.opat := rfl
@[simp] theorem actW3_pcur (s : State) : (actW3 s).pcur = s.pcur := rfl
@[simp] theorem actW3_prem (s : State) : (actW3 s).prem = s.prem := rfl
@[simp] theorem actW3_alen (s : State) : (actW3 s).alen = s.alen - 1 := rfl
@[simp] theorem actW3_apat (s : State) : (actW3 s).apat = shiftIn s.apat false := rfl
@[simp] theorem actW3_mbyte (s : State) : (actW3 s).mbyte = s.mbyte := rfl
@[simp] theorem actW3_mbit (s : State) : (actW3 s).mbit = s.mbit := rfl
@[simp] theorem actW3_msr (s : State) : (actW3 s).msr = s.msr := rfl
@[simp] theorem actW3_out (s : State) : (actW3 s).out = shiftIn s.out (topBit s.apat) := rfl
@[simp] theorem actW3_needed (s : State) : (actW3 s).needed = s.needed - 1 := rfl
@[simp] theorem actW3_bitlen (s : State) : (actW3 s).bitlen = s.bitlen := rfl
@[simp] theorem actW3_tick (s : State) : (actW3 s).tick = s.tick := rfl
@[simp] theorem actW3_msg (s : State) : (actW3 s).msg = s.msg := rfl
@[simp] theorem actW3_inflight (s : State) : (actW3 s).inflight = s.inflight := rfl
@[simp] theorem actW3_fault (s : State) : (actW3 s).fault = s.fault := rfl
@[simp] theorem actW3_trace (s : State) : (actW3 s).trace = s.trace := rfl
@[simp] theorem actW3_input (s : State) : (actW3 s).input = s.input := rfl
@[simp] theorem actW3_resets (s : State) : (actW3 s).resets = s.resets := rfl

@[simp] theorem actW4_zlen (s : State) : (actW4 s).zlen = s.zlen := rfl
@[simp] theorem actW4_zpat (s : State) : (actW4 s).zpat = s.zpat := rfl
@[simp] theorem actW4_olen (s : State) : (actW4 s).olen = 0 := rfl
@[simp] theorem actW4_opat (s : State) : (actW4 s).opat = s.opat := rfl
@[simp] theorem actW4_pcur (s : State) : (actW4 s).pcur = s.pcur := rfl
@[simp] theorem actW4_prem (s : State) : (actW4 s).prem = s.prem := rfl
@[simp] theorem actW4_alen (s : State) : (actW4 s).alen = s.alen := rfl
@[simp] theorem actW4_apat (s : State) : (actW4 s).apat = s.apat := rfl
@[simp] theorem actW4_mbyte (s : State) : (actW4 s).mbyte = s.mbyte := rfl
@[simp] theorem actW4_mbit (s : State) : (actW4 s).mbit = s.mbit := rfl
@[simp] theorem actW4_msr (s : State) : (actW4 s).msr = s.msr := rfl
@[simp] theorem actW4_out (s : State) : (actW4 s).out = 0 := rfl
@[simp] theorem actW4_needed (s : State) : (actW4 s).needed = 0 := rfl
@[simp] theorem actW4_bitlen (s : State) : (actW4 s).bitlen = s.bitlen := rfl
@[simp] theorem actW4_tick (s : State) : (actW4 s).tick = s.tick := rfl
@[simp] theorem actW4_msg (s : State) : (actW4 s).msg = s.msg := rfl
@[simp] theorem actW4_inflight (s : State) : (actW4 s).inflight = s.inflight := rfl
@[simp] theorem actW4_fault (s : State) : (actW4 s).fault = s.fault := rfl
@[simp] theorem actW4_trace (s : State) : (actW4 s).trace = s.trace := rfl
@[simp] theorem actW4_input (s : State) : (actW4 s).input = s.input := rfl
@[simp] theorem actW4_resets (s : State) : (actW4 s).resets = s.resets := rfl

@[simp] theorem actW5_zlen (s : State) : (actW5 s).zlen = 0 := rfl
@[simp] theorem actW5_zpat (s : State) : (actW5 s).zpat = s.zpat := rfl
@[simp] theorem actW5_olen (s : State) : (actW5 s).olen = s.olen := rfl
@[simp] theorem actW5_opat (s : State) : (actW5 s).opat = s.opat := rfl
@[simp] theorem actW5_pcur (s : State) : (actW5 s).pcur = s.pcur := rfl
@[simp] theorem actW5_prem (s : State) : (actW5 s).prem = s.prem := rfl
@[simp] theorem actW5_alen (s : State) : (actW5 s).alen = flushCount s.needed := rfl
@[simp] theorem actW5_apat (s : State) : (actW5 s).apat = 0 := rfl
@[simp] theorem actW5_mbyte (s : State) : (actW5 s).mbyte = s.mbyte := rfl
@[simp] theorem actW5_mbit (s : State) : (actW5 s).mbit = s.mbit := rfl
@[simp] theorem actW5_msr (s : State) : (actW5 s).msr = s.msr := rfl
@[simp] theorem actW5_out (s : State) : (actW5 s).out = s.out := rfl
@[simp] theorem actW5_needed (s : State) : (actW5 s).needed = s.needed := rfl
@[simp] theorem actW5_bitlen (s : State) : (actW5 s).bitlen = s.bitlen := rfl
@[simp] theorem actW5_tick (s : State) : (actW5 s).tick = s.tick := rfl
@[simp] theorem actW5_msg (s : State) : (actW5 s).msg = s.msg := rfl
@[simp] theorem actW5_inflight (s : State) : (actW5 s).inflight = s.inflight := rfl
@[simp] theorem actW5_fault (s : State) : (actW5 s).fault = s.fault := rfl
@[simp] theorem actW5_trace (s : State) : (actW5 s).trace = s.trace := rfl
@[simp] theorem actW5_input (s : State) : (actW5 s).input = s.input := rfl
@[simp] theorem actW5_resets (s : State) : (actW5 s).resets = s.resets := rfl

@[simp] theorem actW6_zlen (s : State) : (actW6 s).zlen = s.zlen := rfl
@[simp] theorem actW6_zpat (s : State) : (actW6 s).zpat = s.zpat := rfl
@[simp] theorem actW6_olen (s : State) : (actW6 s).olen = s.olen := rfl
@[simp] theorem actW6_opat (s : State) : (actW6 s).opat = s.opat := rfl
@[simp] theorem actW6_pcur (s : State) : (actW6 s).pcur = s.pcur := rfl
@[simp] theorem actW6_prem (s : State) : (actW6 s).prem = s.prem := rfl
@[simp] theorem actW6_alen (s : State) : (actW6 s).alen = if topBit (currentMessageByte s) then symbolCount s.olen else symbolCount s.zlen := rfl
@[simp] theorem actW6_apat (s : State) : (actW6 s).apat = if topBit (currentMessageByte s) then s.opat else s.zpat := rfl
@[simp] theorem actW6_mbyte (s : State) : (actW6 s).mbyte = if byteAligned s.mbit then s.mbyte + 1 else s.mbyte := rfl
@[simp] theorem actW6_mbit (s : State) : (actW6 s).mbit = s.mbit + 1 := rfl
@[simp] theorem actW6_msr (s : State) : (actW6 s).msr = shiftIn (currentMessageByte s) false := rfl
@[simp] theorem actW6_out (s : State) : (actW6 s).out = s.out := rfl
@[simp] theorem actW6_needed (s : State) : (actW6 s).needed = s.needed := rfl
@[simp] theorem actW6_bitlen (s : State) : (actW6 s).bitlen = s.bitlen := rfl
@[simp] theorem actW6_tick (s : State) : (actW6 s).tick = s.tick := rfl
@[simp] theorem actW6_msg (s : State) : (actW6 s).msg = s.msg := rfl
@[simp] theorem actW6_inflight (s : State) : (actW6 s).inflight = s.inflight := rfl
@[simp] theorem actW6_fault (s : State) : (actW6 s).fault = s.fault := rfl
@[simp] theorem actW6_trace (s : State) : (actW6 s).trace = s.trace := rfl
@[simp] theorem actW6_input (s : State) : (actW6 s).input = s.input := rfl
@[simp] theorem actW6_resets (s : State) : (actW6 s).resets = s.resets := rfl

/-! ### `assertReset` keeps the run record and the environment's samples (R127, R137) -/

@[simp] theorem assertReset_zlen (s : State) : (assertReset s).zlen = State.reset.zlen := rfl
@[simp] theorem assertReset_zpat (s : State) : (assertReset s).zpat = State.reset.zpat := rfl
@[simp] theorem assertReset_olen (s : State) : (assertReset s).olen = State.reset.olen := rfl
@[simp] theorem assertReset_opat (s : State) : (assertReset s).opat = State.reset.opat := rfl
@[simp] theorem assertReset_pcur (s : State) : (assertReset s).pcur = State.reset.pcur := rfl
@[simp] theorem assertReset_prem (s : State) : (assertReset s).prem = State.reset.prem := rfl
@[simp] theorem assertReset_alen (s : State) : (assertReset s).alen = State.reset.alen := rfl
@[simp] theorem assertReset_apat (s : State) : (assertReset s).apat = State.reset.apat := rfl
@[simp] theorem assertReset_mbyte (s : State) : (assertReset s).mbyte = State.reset.mbyte := rfl
@[simp] theorem assertReset_mbit (s : State) : (assertReset s).mbit = State.reset.mbit := rfl
@[simp] theorem assertReset_msr (s : State) : (assertReset s).msr = State.reset.msr := rfl
@[simp] theorem assertReset_out (s : State) : (assertReset s).out = State.reset.out := rfl
@[simp] theorem assertReset_needed (s : State) : (assertReset s).needed = State.reset.needed := rfl
@[simp] theorem assertReset_bitlen (s : State) : (assertReset s).bitlen = State.reset.bitlen := rfl
@[simp] theorem assertReset_tick (s : State) : (assertReset s).tick = State.reset.tick := rfl
@[simp] theorem assertReset_msg (s : State) : (assertReset s).msg = Memory.ofMessage (Config.msgAtReset s.resets) := rfl
@[simp] theorem assertReset_inflight (s : State) : (assertReset s).inflight = State.reset.inflight := rfl
@[simp] theorem assertReset_fault (s : State) : (assertReset s).fault = s.fault := rfl
@[simp] theorem assertReset_trace (s : State) : (assertReset s).trace = s.trace := rfl
@[simp] theorem assertReset_input (s : State) : (assertReset s).input = s.input := rfl
@[simp] theorem assertReset_resets (s : State) : (assertReset s).resets = s.resets + 1 := rfl

end Sys2Proof.Machine
end

