-- ==== Sys2Proof/Laws/Work.lean ====
section
/-! SUPPORT. The work step: when each action is selected (R89), what a step with that selection does, and that the six
rows of the table are the work step itself. -/

namespace Sys2Proof.Machine

theorem selectAction_w1 {s : State} : selectAction s = .w1 ↔ s.needed = 0 := by
  unfold selectAction
  split_ifs <;> simp_all

theorem selectAction_w2 {s : State} : selectAction s = .w2 ↔ s.needed ≠ 0 ∧ s.prem ≠ 0 := by
  unfold selectAction
  split_ifs <;> simp_all

theorem selectAction_w3 {s : State} : selectAction s = .w3 ↔ s.needed ≠ 0 ∧ s.prem = 0 ∧ s.alen ≠ 0 := by
  unfold selectAction
  split_ifs <;> simp_all

theorem selectAction_w4 {s : State} :
    selectAction s = .w4 ↔ s.needed ≠ 0 ∧ s.prem = 0 ∧ s.alen = 0 ∧ s.zlen = 0 := by
  unfold selectAction
  split_ifs <;> simp_all

theorem selectAction_w5 {s : State} :
    selectAction s = .w5 ↔ s.needed ≠ 0 ∧ s.prem = 0 ∧ s.alen = 0 ∧ s.zlen ≠ 0 ∧ s.mbit = s.bitlen := by
  unfold selectAction
  split_ifs <;> simp_all

theorem selectAction_w6 {s : State} :
    selectAction s = .w6 ↔ s.needed ≠ 0 ∧ s.prem = 0 ∧ s.alen = 0 ∧ s.zlen ≠ 0 ∧ s.mbit ≠ s.bitlen := by
  unfold selectAction
  split_ifs <;> simp_all

/-- Everything a work step can do: exactly one of six cases (R88). -/
theorem workOn_cases (c : Parameters) (s : State) :
    (s.needed = 0 ∧ workOn c s = s) ∨
    (s.needed ≠ 0 ∧ s.prem ≠ 0 ∧ workOn c s = actW2 c s) ∨
    (s.needed ≠ 0 ∧ s.prem = 0 ∧ s.alen ≠ 0 ∧ workOn c s = actW3 s) ∨
    (s.needed ≠ 0 ∧ s.prem = 0 ∧ s.alen = 0 ∧ s.zlen = 0 ∧ workOn c s = actW4 s) ∨
    (s.needed ≠ 0 ∧ s.prem = 0 ∧ s.alen = 0 ∧ s.zlen ≠ 0 ∧ s.mbit = s.bitlen ∧ workOn c s = actW5 s) ∨
    (s.needed ≠ 0 ∧ s.prem = 0 ∧ s.alen = 0 ∧ s.zlen ≠ 0 ∧ s.mbit ≠ s.bitlen ∧ workOn c s = actW6 s) := by
  unfold workOn selectAction
  split_ifs <;> simp_all [perform, actW1]

theorem execWork_eq (s : State) : exec .work s = .next (workOn Config.device.params s) := rfl

theorem execWorkW1_eq (s : State) : exec .workW1 s = exec .work s := by
  simp only [exec, execWorkW1, execWork]; split <;> simp_all [workOn, perform]

theorem execWorkW2_eq (s : State) : exec .workW2 s = exec .work s := by
  simp only [exec, execWorkW2, execWork]; split <;> simp_all [workOn, perform]

theorem execWorkW3_eq (s : State) : exec .workW3 s = exec .work s := by
  simp only [exec, execWorkW3, execWork]; split <;> simp_all [workOn, perform]

theorem execWorkW4_eq (s : State) : exec .workW4 s = exec .work s := by
  simp only [exec, execWorkW4, execWork]; split <;> simp_all [workOn, perform]

theorem execWorkW5_eq (s : State) : exec .workW5 s = exec .work s := by
  simp only [exec, execWorkW5, execWork]; split <;> simp_all [workOn, perform]

theorem execWorkW6_eq (s : State) : exec .workW6 s = exec .work s := by
  simp only [exec, execWorkW6, execWork]; split <;> simp_all [workOn, perform]

end Sys2Proof.Machine
end

