-- ==== Sys2Proof/Laws/Ops.lean ====
section
/-! SUPPORT. One lemma per shared operation that says once everything it can do: START, TAKE, sampling the ports, a step,
and the outcome of `exec`. -/

namespace Sys2Proof.Machine

/-- START as one update of the old state (R81). -/
theorem startOn_eq (c : Parameters) (p : Byte) (m : Message) (n : Byte) (s : State) :
    startOn c p m n s =
      { loadTransmission (descriptorFor c p) m n s with
        fault := if s.inflight then s.fault.or (some (.startWhileBusy p)) else s.fault
        trace := .tick (descriptorFor c p).tickPeriod :: s.trace } := by
  ext1 <;> simp [startOn]

/-- TAKE as one update of the old state (R103, R107). -/
theorem takeByte_eq (s : State) :
    takeByte s =
      { s with
        needed := 8
        fault := if s.needed = 0 then s.fault else s.fault.or (some (.underrun s.needed))
        inflight := s.inflight && !doneFlag s
        trace :=
          if doneFlag s && s.inflight then .complete :: .byte s.out (doneFlag s) :: s.trace
          else .byte s.out (doneFlag s) :: s.trace } := by
  ext1 <;> simp [takeByte, outBytePort, readyFlag]
  cases s.inflight <;> simp

/-- Every operation answers a next state; this one (R68: nothing traps). -/
def nextOf (i : Instr) (s : State) : State :=
  match i with
  | .nop => s
  | .start p m n => startOn Config.device.params p m n s
  | .work | .workW1 | .workW2 | .workW3 | .workW4 | .workW5 | .workW6 => workOn Config.device.params s
  | .take => takeByte s
  | .ready => emit (.ready (readyFlag s)) s
  | .done => emit (.done (doneFlag s)) s
  | .descriptorFor index => emit (.descriptor (descriptorFor Config.device.params index)) s

theorem exec_eq (i : Instr) (s : State) : exec i s = .next (nextOf i s) := by
  cases i with
  | workW1 => rw [execWorkW1_eq]; rfl
  | workW2 => rw [execWorkW2_eq]; rfl
  | workW3 => rw [execWorkW3_eq]; rfl
  | workW4 => rw [execWorkW4_eq]; rfl
  | workW5 => rw [execWorkW5_eq]; rfl
  | workW6 => rw [execWorkW6_eq]; rfl
  | _ => rfl

/-- Inversion of `exec`. -/
theorem exec_next {i : Instr} {s t : State} (h : exec i s = .next t) : t = nextOf i s := by
  rw [exec_eq] at h
  cases h
  rfl

theorem fetch_nil {s : State} (h : s.input = []) : fetch s = (.idle, s) := by
  simp [fetch, h]

theorem fetch_cons {s : State} {p : PortSample} {rest : List PortSample} (h : s.input = p :: rest) :
    fetch s = (p, { s with input := rest }) := by
  simp [fetch, h]

/-- Sampling the ports changes nothing but what the environment has yet to present. -/
theorem fetch_state (s : State) : ∃ rest, (fetch s).2 = { s with input := rest } := by
  cases h : s.input with
  | nil => exact ⟨[], by rw [fetch_nil h, ← h]⟩
  | cons p rest => exact ⟨rest, by rw [fetch_cons h]⟩

/-- Everything a step can do: the reset input, or the decoded command, on the state with the sample consumed. -/
theorem step_cases {s t : State} (h : step s = .next t) :
    ∃ rest, t = assertReset { s with input := rest } ∨ ∃ i, i.wellFormed = true ∧ t = nextOf i { s with input := rest } := by
  obtain ⟨rest, hrest⟩ := fetch_state s
  refine ⟨rest, ?_⟩
  simp only [step, hrest] at h
  split at h
  · cases h; exact .inl rfl
  · refine .inr ⟨_, ?_, exec_next h⟩
    unfold decode
    split_ifs <;> rfl

end Sys2Proof.Machine
end

