-- ==== Sys2Proof/Laws/PerInstr.lean ====
section
/-! SUPPORT. The per-instruction family `PortForm`: what the ports of each operation look like (R63, R65). -/

namespace Sys2Proof.Laws.PortForm

/-- The ports of an operation carry its row's code with the reset input low, and what they present is a command of the
port, the same one when the operation is a command itself. -/
def Statement (i : Instr) : Prop :=
  (encode i).cmd = i.code ∧ (encode i).reset = false ∧ (decode (encode i)).wellFormed = true ∧
    (i.wellFormed = true → decode (encode i) = i)

theorem nop : Statement .nop := ⟨rfl, rfl, rfl, fun _ => rfl⟩

theorem start (p : Byte) (m : Message) (n : Byte) : Statement (.start p m n) := ⟨rfl, rfl, rfl, fun _ => rfl⟩

theorem work : Statement .work := ⟨rfl, rfl, rfl, fun _ => rfl⟩

theorem workW1 : Statement .workW1 := ⟨rfl, rfl, rfl, nofun⟩

theorem workW2 : Statement .workW2 := ⟨rfl, rfl, rfl, nofun⟩

theorem workW3 : Statement .workW3 := ⟨rfl, rfl, rfl, nofun⟩

theorem workW4 : Statement .workW4 := ⟨rfl, rfl, rfl, nofun⟩

theorem workW5 : Statement .workW5 := ⟨rfl, rfl, rfl, nofun⟩

theorem workW6 : Statement .workW6 := ⟨rfl, rfl, rfl, nofun⟩

theorem take : Statement .take := ⟨rfl, rfl, rfl, fun _ => rfl⟩

theorem ready : Statement .ready := ⟨rfl, rfl, rfl, nofun⟩

theorem done : Statement .done := ⟨rfl, rfl, rfl, nofun⟩

theorem descriptorFor (index : Byte) : Statement (.descriptorFor index) := ⟨rfl, rfl, rfl, nofun⟩

end Sys2Proof.Laws.PortForm
end

