-- ==== Sys2Proof/Laws/Script.lean ====
section
/-! SUPPORT. Scripts run to a next state; the contract of a script splits as the script does. -/

namespace Sys2Proof

open Sys2Proof.Machine

@[simp] theorem runScript_nil (s : State) : runScript [] s = .next s := rfl

@[simp] theorem runScript_cons (i : Instr) (is : List Instr) (s : State) :
    runScript (i :: is) s = runScript is (nextOf i s) := by
  simp [runScript, andThen, exec_eq]

theorem runScript_append (is js : List Instr) (s : State) :
    runScript (is ++ js) s = andThen (runScript is s) (runScript js) := by
  induction is generalizing s with
  | nil => rfl
  | cons i is ih => simp [ih]

theorem runScript_total (is : List Instr) (s : State) : ∃ t, runScript is s = .next t := by
  induction is generalizing s with
  | nil => exact ⟨s, rfl⟩
  | cons i is ih => simpa using ih (nextOf i s)

@[simp] theorem keepsContract_cons (i : Instr) (is : List Instr) (s : State) :
    KeepsContract (i :: is) s ↔ contractOk i s = true ∧ KeepsContract is (nextOf i s) := by
  simp [KeepsContract, exec_eq]

@[simp] theorem effectiveWorks_cons (i : Instr) (is : List Instr) (s : State) :
    effectiveWorks (i :: is) s =
      (if i.code = 0b10#2 ∧ selectAction s ≠ .w1 then 1 else 0) + effectiveWorks is (nextOf i s) := by
  simp [effectiveWorks, exec_eq]

/-- The host's run takes one step and goes on from the state it leaves. -/
theorem core_run_succ (k : Nat) (s : State) :
    Host.Core.run core (k + 1) s = andThen (step s) (Host.Core.run core k) := by
  have h (M : Host.Core) (s : M.State) : M.run (k + 1) s =
      match M.step s with
      | .next t => M.run k t
      | .fault f => .fault f
      | .refused f => .refused f := rfl
  refine (h core s).trans ?_
  have hc : core.step s = step s := rfl
  cases hs : step s <;> rw [hc, hs] <;> rfl

/-- A script's end state is unique, so what it satisfies is read off it (R85, R127). -/
theorem satisfies_iff {is : List Instr} {s t : State} (h : runScript is s = .next t) (post : State → Prop) :
    Satisfies is s post ↔ t.fault = none ∧ post t := by
  simp [Satisfies, Holds, h]

theorem satisfies_cons (i : Instr) (is : List Instr) (s : State) (post : State → Prop) :
    Satisfies (i :: is) s post ↔ Satisfies is (nextOf i s) post := by
  simp [Satisfies]

/-- WORK and its six rows do one and the same thing (R72, R88). -/
theorem nextOf_work {i : Instr} {s : State} (h : isWork i = true) :
    nextOf i s = workOn Config.device.params s := by
  cases i <;> first | rfl | exact absurd h (by simp [isWork, Instr.code])

end Sys2Proof
end

