-- ==== Sys2Proof/Laws/Stream.lean ====
section
/-! SUPPORT. The small laws of bit lists: patterns, packing into bytes, the flush, and the byte under construction
(R110, R58). -/

namespace Sys2Proof.Machine

theorem toNat_ne_zero {w : Nat} {x : BitVec w} (h : x ≠ 0) : x.toNat ≠ 0 :=
  fun h' => h (BitVec.eq_of_toNat_eq (by simpa using h'))

/-! ### Patterns -/

@[simp] theorem patternBits_length (k : Nat) (p : Byte) : (patternBits k p).length = k := by simp [patternBits]

/-- A pattern that has run out sends nothing; the zero pattern sends zeros (R95). -/
theorem patternBits_blank (k : Nat) : patternBits k 0 = List.replicate k false := by
  simp [patternBits, List.map_const']

/-- A pattern sends its top bit first, then what the shifted pattern sends (R93). -/
theorem patternBits_succ (k : Nat) (p : Byte) :
    patternBits (k + 1) p = topBit p :: patternBits k (shiftIn p false) := by
  unfold patternBits
  rw [List.range_succ_eq_map, List.map_cons, List.map_map]
  congr 1
  apply List.map_congr_left
  intro j _
  simp only [Function.comp, getLsbD_shiftIn]
  by_cases h : j < 7
  · rw [if_neg (by omega)]
    have : 7 - (j + 1) = 7 - j - 1 := by omega
    simp [this, show j + 1 < 8 by omega, show j < 8 by omega, show 7 - j < 8 by omega]
  · have h1 : ¬ j + 1 < 8 := by omega
    by_cases h8 : j < 8
    · have : j = 7 := by omega
      simp [this]
    · simp [h1, h8]

theorem symbolBits_length (z o : BitVec 4) (zp op : Byte) (b : Bool) :
    (symbolBits z o zp op b).length = if b then o.toNat else z.toNat := by
  unfold symbolBits
  split <;> simp

/-! ### Packing -/

@[simp] theorem packBytes_length (l : List Bool) : (packBytes l).length = l.length / 8 := by simp [packBytes]

/-- Whole bytes in front are packed on their own. -/
theorem packBytes_append (a b : List Bool) (h : a.length % 8 = 0) :
    packBytes (a ++ b) = packBytes a ++ packBytes b := by
  unfold packBytes
  have hq : a.length = 8 * (a.length / 8) := by omega
  rw [List.length_append, show (a.length + b.length) / 8 = a.length / 8 + b.length / 8 by omega, List.range_add,
    List.map_append]
  congr 1
  · apply List.map_congr_left
    intro i hi
    rw [List.mem_range] at hi
    rw [List.drop_append_of_le_length (by omega), List.take_append_of_le_length (by simp; omega)]
  · rw [List.map_map]
    apply List.map_congr_left
    intro i _
    simp only [Function.comp]
    rw [List.drop_append, List.drop_eq_nil_of_le (by omega), List.nil_append,
      show 8 * (a.length / 8 + i) - a.length = 8 * i by omega]

/-- The first group of eight is the first byte. -/
theorem packBytes_byte (a b : List Bool) (h : a.length = 8) :
    packBytes (a ++ b) = byteOfBits a :: packBytes b := by
  rw [packBytes_append a b (by omega)]
  have : packBytes a = [byteOfBits a] := by
    unfold packBytes
    rw [h]
    simp only [Nat.reduceDiv, List.range_one, List.map_cons, List.map_nil, Nat.mul_zero, List.drop_zero]
    rw [← h, List.take_length]
  rw [this]
  rfl

/-- Fewer than eight bits make no byte. -/
theorem packBytes_short (a : List Bool) (h : a.length < 8) : packBytes a = [] := by
  unfold packBytes
  rw [show a.length / 8 = 0 by omega]
  rfl

/-- A byte in front goes unchanged through the flush's padding. -/
theorem paddedBits_byte (a b : List Bool) (h : a.length = 8) : paddedBits (a ++ b) = a ++ paddedBits b := by
  unfold paddedBits flushLength
  rw [List.append_assoc, List.length_append, h, Nat.add_mod_left]

/-- The payload and its flush fill `q + 2` whole bytes (R110). -/
theorem flush_fills (k : Nat) : (k + flushLength k) / 8 = k / 8 + 2 := by
  unfold flushLength
  omega

/-! ### The byte under construction -/

theorem builtBits_length (s : State) : (builtBits s).length = 8 - s.needed.toNat := by simp [builtBits]

theorem builtBits_none {s : State} (h : s.needed = 8) : builtBits s = [] := by simp [builtBits, h]

theorem byteOfBits_bits : ∀ v : Byte, byteOfBits ((List.range 8).map fun j => v.getLsbD (7 - j)) = v := by
  decide +kernel

/-- Eight built bits are the output byte (R20). -/
theorem byteOfBits_builtBits {s : State} (h : s.needed = 0) : byteOfBits (builtBits s) = s.out := by
  simpa [builtBits, h] using byteOfBits_bits s.out

/-- W3 appends the active pattern's top bit to what is built (R93). -/
theorem builtBits_actW3 (s : State) (h : s.needed ≠ 0) (h8 : s.needed.toNat ≤ 8) :
    builtBits (actW3 s) = builtBits s ++ [topBit s.apat] := by
  have hn := toNat_ne_zero h
  have e : (actW3 s).needed.toNat = s.needed.toNat - 1 := by
    simp [BitVec.toNat_sub]
    omega
  unfold builtBits
  rw [e, show 8 - (s.needed.toNat - 1) = (8 - s.needed.toNat) + 1 by omega, List.range_succ, List.map_append]
  congr 1
  · apply List.map_congr_left
    intro j hj
    rw [List.mem_range] at hj
    simp only [actW3_out, getLsbD_shiftIn]
    rw [if_neg (by omega), show 7 - (s.needed.toNat - 1) - j - 1 = 7 - s.needed.toNat - j by omega,
      decide_eq_true (by omega), Bool.true_and]
  · simp only [actW3_out, getLsbD_shiftIn, List.map_cons, List.map_nil]
    rw [if_pos (by omega)]

end Sys2Proof.Machine
end

