-- ==== Sys2Proof/Tests/Slice0.lean ====
section
/-! SUPPORT. Tests: well-formedness, words written from the spec's encodings, the single-step vectors of
spec/95_test_vectors.md on its made-up configuration, then a witness for the hypotheses of each statement. -/

namespace Sys2Proof.Tests

open Sys2Proof Sys2Proof.Machine

/-! ## Well-formedness (R63, R7) -/

theorem test_commands_are_four_code_points :
    [Instr.nop, .start 0 0 0, .work, .take].all Instr.wellFormed = true ∧
      [Instr.workW1, .workW2, .workW3, .workW4, .workW5, .workW6, .ready, .done, .descriptorFor 0].all
        (fun i => !i.wellFormed) = true := by decide

/-- The configuration of section 0 is well formed. -/
theorem test_sample_wf : Parameters.sample.wf = true := by decide

/-- The test configuration with entry `i` replaced. -/
def sampleWith (i : Nat) (d : Descriptor) : Parameters :=
  { Parameters.sample with catalog := Parameters.sample.catalog.set i d }

/-- V-WF1: T0 with `zero_len = 0`, clause (c). -/
theorem test_wf1_refused :
    (sampleWith 0 ⟨0, 0x30, 4, 0xC0, 0, 2, 0x40⟩).symbolsOk = false ∧
      (sampleWith 0 ⟨0, 0x30, 4, 0xC0, 0, 2, 0x40⟩).wf = false := by decide

/-- V-WF2: T8 with `pre_len = 5`, past the end of the pool, clause (d). -/
theorem test_wf2_refused :
    (sampleWith 8 ⟨3, 0x20, 6, 0x1C, 27, 5, 0x64⟩).windowsInPool = false ∧
      (sampleWith 8 ⟨3, 0x20, 6, 0x1C, 27, 5, 0x64⟩).wf = false := by decide

/-- V-WF3: a catalog of eight entries, clause (a). -/
theorem test_wf3_refused :
    { Parameters.sample with catalog := Parameters.sample.catalog.dropLast }.catalogSizeOk = false ∧
      { Parameters.sample with catalog := Parameters.sample.catalog.dropLast }.wf = false := by decide

/-- V-WF4: T1 with `one_len = 9`, clause (c). -/
theorem test_wf4_refused :
    (sampleWith 1 ⟨1, 0x00, 9, 0x80, 2, 3, 0x20⟩).symbolsOk = false ∧
      (sampleWith 1 ⟨1, 0x00, 9, 0x80, 2, 3, 0x20⟩).wf = false := by decide

/-- V-WF5: T6 with `pre_off = 19`, overlapping T5's window, clause (e). -/
theorem test_wf5_refused :
    (sampleWith 6 ⟨4, 0x80, 4, 0xE0, 19, 2, 0x40⟩).windowsOk = false ∧
      (sampleWith 6 ⟨4, 0x80, 4, 0xE0, 19, 2, 0x40⟩).wf = false := by decide

/-- R7 (b), (f): a pool of 30 bytes and a tick period of nine bits, each on its own, refuse the configuration. -/
theorem test_pool_and_tick_refused :
    { Parameters.sample with pool := Parameters.sample.pool.dropLast }.wf = false ∧
      (sampleWith 3 ⟨3, 0x80, 3, 0xC0, 6, 0, 256⟩).wf = false := by
  decide

/-! ## Decoding, words written out from R63 and R65 -/

theorem test_decode_nop : decodeTableWord 2 0b00 = some .nop := by decide

theorem test_decode_work : decodeTableWord 2 0b10 = some .work := by decide

theorem test_decode_take : decodeTableWord 2 0b11 = some .take := by decide

/-- The request of P3: selector 16, 3 bits, message `C0 00 ...` with its first byte in port bits 127:120. -/
theorem test_decode_start :
    decodeWord (0b0#1 ++ 0xC0000000000000000000000000000000#128 ++ 0x03#8 ++ 0x10#8 ++ 0b01#2) =
      .start 0x10 0xC0000000000000000000000000000000 0x03 := by decide

/-- The lookup's row: a START presents its selector (R72). -/
theorem test_decode_lookup_request : decodeTableWord 2 0b01 = some (Instr.descriptorFor 0).onPort := by decide

/-- The host's placing: the very next step runs the word. -/
theorem test_with_fetch_word : step (State.reset.withFetchWord 2 0b11) = exec .take State.reset := by
  rw [step, fetch_cons (p := PortSample.ofWord 3) (rest := []) rfl]
  rfl

/-! ## Single steps, the vectors of spec/95_test_vectors.md -/

/-- A state in which a transmission of T0 is under way: the symbols of T0, a message of 3 bits, first byte `A0`. -/
def busy : State :=
  { State.reset with
    zlen := 4, zpat := 0x30, olen := 4, opat := 0xC0, bitlen := 3, needed := 8, msg := [(0, 0xA0)], inflight := true }

/-- V-D1 to V-D7. -/
theorem test_descriptor_for :
    ([0, 8, 9, 13, 255, 18, 128].map fun i => (descriptorFor Parameters.sample i).tickPeriod) =
      [0x40, 0x64, 0x40, 0x80, 0x10, 0x40, 0x20] := by decide

/-- V-S1. -/
theorem test_start : startOn Parameters.sample 0 (0xA0#8 ++ 0#120) 3 State.reset =
    { busy with prem := 2, tick := 0x40, trace := [.tick 0x40] } := by decide

/-- V-S3, V-S7, V-S9: the clamp, the fold, and the mark of a START while busy. -/
theorem test_start_clamps_folds_and_marks :
    (startOn Parameters.sample 1 0 200 State.reset).bitlen = 128 ∧
      (startOn Parameters.sample 255 0 3 State.reset).pcur = 6 ∧
      (startOn Parameters.sample 1 0 8 { busy with out := 0xAA }).fault = some (.startWhileBusy 1) ∧
      (startOn Parameters.sample 1 0 8 { busy with out := 0xAA }).out = 0xAA := by decide

/-- V-W1. -/
theorem test_w1 : workOn Parameters.sample { busy with needed := 0, out := 0xAA, prem := 1 } =
    { busy with needed := 0, out := 0xAA, prem := 1 } := by decide

/-- V-W2a, V-W2d: the first byte of T0's preamble, and the last pool byte. -/
theorem test_w2 :
    workOn Parameters.sample { busy with prem := 2 } = { busy with out := 0xAA, pcur := 1, prem := 1, needed := 0 } ∧
      workOn Parameters.sample { busy with prem := 1, pcur := 30 } =
        { busy with out := 0xEF, pcur := 31, prem := 0, needed := 0 } := by decide

/-- V-W3a, V-W3c. -/
theorem test_w3 :
    workOn Parameters.sample { busy with out := 0x55, apat := 0xC0, alen := 4 } =
      { busy with out := 0xAB, apat := 0x80, alen := 3, needed := 7 } ∧
      workOn Parameters.sample { busy with out := 0xE1, apat := 0x80, alen := 1, needed := 1 } =
        { busy with out := 0xC3, apat := 0, alen := 0, needed := 0 } := by decide

/-- V-W4c, V-W4d: the sentinel byte replaces `OUT`, and W4 outranks W5. -/
theorem test_w4 : workOn Parameters.sample { busy with zlen := 0, mbit := 3, needed := 3, out := 0x1F } =
    { busy with zlen := 0, mbit := 3, needed := 0, out := 0x00, olen := 0 } := by decide

/-- V-W5a, V-W5e. -/
theorem test_w5 : workOn Parameters.sample { busy with mbit := 3, needed := 4, out := 0x3C, apat := 0x40 } =
    { busy with mbit := 3, needed := 4, out := 0x3C, apat := 0x00, alen := 12, zlen := 0 } := by decide

/-- V-W6a, V-W6b. -/
theorem test_w6 :
    workOn Parameters.sample busy = { busy with alen := 4, apat := 0xC0, mbit := 1, mbyte := 1, msr := 0x40 } ∧
      workOn Parameters.sample { busy with mbit := 1, mbyte := 1, msr := 0x40, needed := 4 } =
        { busy with alen := 4, apat := 0x30, mbit := 2, mbyte := 1, msr := 0x80, needed := 4 } := by decide

/-- V-W6e, V-W6h: the last byte is fetched, and `MSR` is ignored at a fetch. -/
theorem test_w6_fetch :
    workOn Parameters.sample { busy with mbit := 120, mbyte := 15, bitlen := 128, msr := 0xFF, msg := [(15, 0x10)] } =
      { busy with
        mbit := 121, mbyte := 16, bitlen := 128, msr := 0x20, alen := 4, apat := 0x30, msg := [(15, 0x10)] } := by decide

/-- V-T1, V-T4. -/
theorem test_take :
    takeByte { busy with out := 0xAA, needed := 0 } = { busy with out := 0xAA, trace := [.byte 0xAA false] } ∧
      takeByte { busy with olen := 0, needed := 0 } =
        { busy with olen := 0, inflight := false, trace := [.complete, .byte 0x00 true] } := by decide

/-- V-T7: an early TAKE records the underrun with `NEEDED = 5`. -/
theorem test_take_underrun :
    takeByte { busy with out := 0xAE, needed := 5, alen := 1 } =
      { busy with out := 0xAE, alen := 1, fault := some (.underrun 5), trace := [.byte 0xAE false] } := by decide

/-- V-R2, V-R3, V-R4. -/
theorem test_status_reads :
    exec .ready busy = .next { busy with trace := [.ready false] } ∧
      exec .done busy = .next { busy with trace := [.done false] } ∧
      exec .done { busy with olen := 0 } = .next { busy with olen := 0, trace := [.done true] } := ⟨rfl, rfl, rfl⟩

/-- V-N1. -/
theorem test_nop : exec .nop busy = .next busy := rfl

/-- V-ST19's payload, and the count of V-ST1. -/
theorem test_closed_form :
    streamTakes Parameters.sample 8 (0x90#8 ++ 0#120) 4 =
      [(0xDE, false), (0xAD, false), (0xBE, false), (0xEF, false), (0x1C, false), (0x91, false), (0xC0, false),
       (0x00, false), (0x00, true)] ∧
      workSteps (descriptorFor Parameters.sample 0) (0xA0#8 ++ 0#120) 3 = 31 := by decide

/-! ## Witnesses: states and operands that meet the hypotheses of the statements -/

/-- The range invariants of a state with an empty buffer and no tick period. -/
theorem rangeInv_of {s : State} (ht : s.tick = 0) (hm : s.msg.wf)
    (h : s.needed.toNat ≤ 8 ∧ s.pcur.toNat + s.prem.toNat ≤ 31 ∧ s.mbit.toNat ≤ s.bitlen.toNat ∧
      s.bitlen.toNat ≤ 128 ∧ s.mbyte.toNat = (s.mbit.toNat + 7) / 8 ∧ s.zlen.toNat ≤ 8 ∧ s.olen.toNat ≤ 8 ∧
      s.alen.toNat ≤ 16) : RangeInv s := by
  obtain ⟨h1, h2, h3, h4, h5, h6, h7, h8⟩ := h
  exact ⟨h1, by omega, h2, h3, h4, h5, by omega, h6, h7, h8, by rw [ht]; exact Nat.two_pow_pos _, hm⟩

/-- Both invariants hold of it. -/
theorem busy_inv : RangeInv busy ∧ FlowInv busy := ⟨rangeInv_of rfl (by decide) (by decide), by constructor <;> decide⟩

theorem witness_encodedOperationDecodes : (Instr.start 255 0 255).wellFormed = true := by decide

theorem witness_operandInputsIgnoredUnlessStart :
    (⟨false, 0b10, 1, 2, 3⟩ : PortSample).cmd = (⟨false, 0b10, 4, 5, 6⟩ : PortSample).cmd ∧
      (⟨false, 0b10, 1, 2, 3⟩ : PortSample).cmd ≠ 0b01#2 := by decide

theorem witness_stepRunsPresentedCommand :
    { busy with input := [⟨false, 0b10, 0, 0, 0⟩] }.input = ⟨false, 0b10, 0, 0, 0⟩ :: [] ∧
      (⟨false, 0b10, 0, 0, 0⟩ : PortSample).reset = false := by decide

theorem witness_stepWithNoCommandIsIdle : busy.input = [] := by decide

theorem witness_resetInputClearsRegisters :
    { busy with input := [⟨true, 0b01, 0, 0, 0⟩] }.input = ⟨true, 0b01, 0, 0, 0⟩ :: [] ∧
      (⟨true, 0b01, 0, 0, 0⟩ : PortSample).reset = true := by decide

theorem witness_rangesHoldUnderAnyCommands :
    (∃ t, exec (.start 0 0 0) busy = .next t) ∧ RangeInv busy ∧ ∃ t, exec .take busy = .next t :=
  ⟨⟨_, rfl⟩, busy_inv.1, _, rfl⟩

/-- A step that works and a step that resets. -/
theorem witness_stepKeepsRanges_and_flow :
    (RangeInv { busy with input := [⟨false, 0b10, 0, 0, 0⟩] } ∧ FlowInv { busy with input := [⟨false, 0b10, 0, 0, 0⟩] } ∧
      ∃ t, step { busy with input := [⟨false, 0b10, 0, 0, 0⟩] } = .next t) ∧
    (RangeInv { busy with input := [⟨true, 0b01, 0, 0, 0⟩] } ∧ FlowInv { busy with input := [⟨true, 0b01, 0, 0, 0⟩] } ∧
      ∃ t, step { busy with input := [⟨true, 0b01, 0, 0, 0⟩] } = .next t) := by
  refine ⟨⟨rangeInv_of rfl (by decide) (by decide), ?_, _, rfl⟩, rangeInv_of rfl (by decide) (by decide), ?_, _, rfl⟩ <;>
    constructor <;> decide

theorem witness_startEstablishesFlow : ∃ t, exec (.start 255 0 255) busy = .next t := ⟨_, rfl⟩

/-- A legal TAKE inside the flush, and the sentinel action about to run. -/
theorem witness_flushStaysAligned :
    (RangeInv { busy with zlen := 0, alen := 8, needed := 0 } ∧ FlowInv { busy with zlen := 0, alen := 8, needed := 0 } ∧
      FlushAligned { busy with zlen := 0, alen := 8, needed := 0 } ∧
      contractOk .take { busy with zlen := 0, alen := 8, needed := 0 } = true ∧
      ∃ t, exec .take { busy with zlen := 0, alen := 8, needed := 0 } = .next t) ∧
    (RangeInv { busy with zlen := 0 } ∧ FlushAligned { busy with zlen := 0 } ∧
      selectAction { busy with zlen := 0 } = .w4 ∧ { busy with zlen := 0 }.olen ≠ 0) := by
  refine ⟨⟨rangeInv_of rfl (by decide) (by decide), by constructor <;> decide, ?_, by decide, _, rfl⟩,
    rangeInv_of rfl (by decide) (by decide), ?_, by decide, by decide⟩ <;> intro _ _ <;> decide

theorem witness_lookupLaws :
    (0xFF#8).toNat = (0xF6#8).toNat + 9 ∧ (0x08#8).toNat < 9 ∧ (8 : Nat) < 9 ∧
      ∃ d, d = descriptorFor Config.device.params 0xFF := ⟨by decide, by decide, by decide, _, rfl⟩

theorem witness_startFrame :
    (∃ t, exec (.start 9 (0xA0#8 ++ 0#120) 3) busy = .next t) ∧ busy.msg.wf ∧ (16 : Nat) ≤ 16 :=
  ⟨⟨_, rfl⟩, by decide, by decide⟩

theorem witness_startLoadsMessageMsbFirst :
    (∃ t, exec (.start 9 (0xA0#8 ++ 0#120) 3) busy = .next t) ∧ (0 : Nat) < 128 ∧ (127 : Nat) < 128 :=
  ⟨⟨_, rfl⟩, by decide, by decide⟩

theorem witness_startFoldsAndClamps :
    State.reset.inflight = false ∧ (0x00#8).toNat % 9 = (0x12#8).toNat % 9 ∧
      min (0x80#8).toNat 128 = min (0xFF#8).toNat 128 := by decide

theorem witness_workNoOpWhenReady : { busy with needed := 0 }.needed = 0 := by decide

/-- The last pool byte, and the flow invariant's clause. -/
theorem witness_workDeliversPreambleByte :
    { busy with prem := 1, pcur := 30 }.needed ≠ 0 ∧ { busy with prem := 1, pcur := 30 }.prem ≠ 0 ∧
      { busy with prem := 1, pcur := 30 }.pcur.toNat + { busy with prem := 1, pcur := 30 }.prem.toNat ≤ 31 ∧
      FlowInv { busy with prem := 1, pcur := 30 } := by
  refine ⟨by decide, by decide, by decide, ?_⟩
  constructor <;> decide

theorem witness_workShiftsOneBit :
    { busy with alen := 1, needed := 1 }.needed ≠ 0 ∧ { busy with alen := 1, needed := 1 }.prem = 0 ∧
      { busy with alen := 1, needed := 1 }.alen ≠ 0 := by decide

theorem witness_workFinishes :
    { busy with zlen := 0 }.needed ≠ 0 ∧ { busy with zlen := 0 }.prem = 0 ∧ { busy with zlen := 0 }.alen = 0 ∧
      { busy with zlen := 0 }.zlen = 0 := by decide

theorem witness_workEntersFlush :
    { busy with mbit := 3 }.needed ≠ 0 ∧ { busy with mbit := 3 }.prem = 0 ∧ { busy with mbit := 3 }.alen = 0 ∧
      { busy with mbit := 3 }.zlen ≠ 0 ∧ { busy with mbit := 3 }.mbit = { busy with mbit := 3 }.bitlen := by decide

theorem witness_flushIsEnteredOnce :
    { busy with zlen := 0 }.zlen = 0 ∧ noStart [.work, .take, .work] = true ∧
      ∃ t, runScript [.work, .take, .work] { busy with zlen := 0 } = .next t :=
  ⟨rfl, by decide, runScript_total _ _⟩

/-- The last bit of a full message, taken from the shift register. -/
def lastBit : State := { busy with bitlen := 128, mbit := 127, mbyte := 16 }

/-- The first bit, taken from the buffer, and the last. -/
theorem witness_workTakesPayloadBit :
    (RangeInv busy ∧ FlowInv busy ∧ busy.needed ≠ 0 ∧ busy.prem = 0 ∧ busy.alen = 0 ∧ busy.zlen ≠ 0 ∧
      busy.mbit ≠ busy.bitlen) ∧
    (RangeInv lastBit ∧ FlowInv lastBit ∧ lastBit.needed ≠ 0 ∧ lastBit.prem = 0 ∧ lastBit.alen = 0 ∧
      lastBit.zlen ≠ 0 ∧ lastBit.mbit ≠ lastBit.bitlen) := by
  refine ⟨⟨busy_inv.1, busy_inv.2, by decide⟩, rangeInv_of rfl (by decide) (by decide), ?_, by decide⟩
  constructor <;> decide

theorem witness_workLeavesAlone : isWork .workW3 = true ∧ ∃ t, exec .workW3 busy = .next t := ⟨by decide, _, rfl⟩

/-- A work step in each case of the statement: leaving the preamble, entering the flush, finishing, and none of these;
then an operation that is neither a work step nor a START. -/
theorem witness_phaseMovesForwardOnly :
    ([{ busy with prem := 1 }, { busy with mbit := 3 }, { busy with zlen := 0 }, busy].map selectAction =
      [.w2, .w5, .w4, .w6]) ∧
    FlowInv { busy with prem := 1 } ∧ FlowInv { busy with mbit := 3 } ∧ FlowInv { busy with zlen := 0 } ∧
    FlowInv busy ∧ isWork .work = true ∧ (∃ t, exec .work busy = .next t) ∧
    isWork .take = false ∧ isStart .take = false ∧ ∃ t, exec .take busy = .next t := by
  refine ⟨by decide, ?_, ?_, ?_, busy_inv.2, by decide, ⟨_, rfl⟩, by decide, by decide, _, rfl⟩ <;> constructor <;> decide

theorem witness_flagsChangeOnlyAsListed : ∃ t, exec .workW4 { busy with zlen := 0 } = .next t := ⟨_, rfl⟩

/-- A whole byte from the middle of the flush, and no step at all. -/
theorem witness_patternEmittedMsbFirst :
    { busy with alen := 16 }.prem = 0 ∧ { busy with alen := 16 }.needed.toNat ≤ 8 ∧
      8 ≤ { busy with alen := 16 }.needed.toNat ∧ 8 ≤ { busy with alen := 16 }.alen.toNat ∧
      0 ≤ { busy with alen := 16 }.needed.toNat := by decide

/-- The shortest and the longest symbols, and the flush. -/
theorem witness_byteReadyWithinBound :
    ({ busy with zlen := 1, olen := 1 }.needed = 8 ∧ 1 ≤ { busy with zlen := 1, olen := 1 }.zlen.toNat ∧
      1 ≤ { busy with zlen := 1, olen := 1 }.olen.toNat) ∧
    ({ busy with zlen := 8, olen := 8 }.needed = 8 ∧ 8 ≤ { busy with zlen := 8, olen := 8 }.zlen.toNat ∧
      8 ≤ { busy with zlen := 8, olen := 8 }.olen.toNat) ∧
    ({ busy with zlen := 0 }.needed = 8 ∧ ({ busy with zlen := 0 }.zlen ≠ 0 → False)) := by decide

/-- The completing TAKE and any other one. -/
theorem witness_takeReturnsCompleteByte :
    ({ busy with needed := 0, olen := 0 }.needed = 0 ∧ { busy with needed := 0, olen := 0 }.olen = 0 ∧
      { busy with needed := 0, olen := 0 }.inflight = true) ∧
    ({ busy with needed := 0 }.needed = 0 ∧ { busy with needed := 0 }.olen ≠ 0) := by decide

theorem witness_takeRestartsReadinessCycle : { busy with needed := 0 }.needed = 0 := by decide

theorem witness_takeFrame : ∃ t, exec .take busy = .next t := ⟨_, rfl⟩

theorem witness_idleBlockSuppliesZeros :
    State.reset.prem = 0 ∧ State.reset.alen = 0 ∧ State.reset.zlen = 0 ∧ State.reset.olen = 0 ∧ State.reset.out = 0 ∧
      State.reset.needed = 0 ∧ State.reset.inflight = false := by decide

theorem witness_faultMarkIsSticky :
    { busy with fault := some (.underrun 5) }.fault = some (.underrun 5) ∧
      (∃ t, exec (.start 0 0 0) { busy with fault := some (.underrun 5) } = .next t) ∧
      ∃ t, step { busy with fault := some (.underrun 5), input := [⟨true, 0, 0, 0, 0⟩] } = .next t :=
  ⟨rfl, ⟨_, rfl⟩, _, rfl⟩

theorem witness_faultOnlyFromBrokenContract :
    busy.fault = none ∧ (∃ t, exec (.start 1 0 0) busy = .next t) ∧ (∃ t, exec .take busy = .next t) ∧
      ∃ t, exec .take { busy with needed := 0 } = .next t := ⟨rfl, ⟨_, rfl⟩, ⟨_, rfl⟩, _, rfl⟩

theorem witness_messageHoldsStill :
    isStart .work = false ∧ (∃ t, exec .work busy = .next t) ∧ busy.fault ≠ some .messageChanged ∧
      ∃ t, step { busy with input := [⟨false, 0b11, 0, 0, 0⟩] } = .next t :=
  ⟨rfl, ⟨_, rfl⟩, by decide, _, rfl⟩

/-! ### Scripts -/

/-- One bit short of a complete byte. -/
def oneShort : State := { busy with alen := 1, apat := 0x80, needed := 1 }

theorem oneShort_keeps : KeepsContract [.work, .take] oneShort ∧ KeepsContract [.nop, .work, .ready, .workW1, .take] oneShort := by
  simp only [keepsContract_cons]
  exact ⟨⟨rfl, rfl, trivial⟩, rfl, rfl, rfl, rfl, rfl, trivial⟩

theorem witness_contractKeepingRunHasNoFault :
    KeepsContract [.work, .take] oneShort ∧ oneShort.fault = none ∧ ∃ t, runScript [.work, .take] oneShort = .next t :=
  ⟨oneShort_keeps.1, rfl, runScript_total _ _⟩

theorem witness_scheduleIndependence :
    noStart [.work] = true ∧ noStart [.nop, .work, .ready, .workW1] = true ∧
      takes [.work] = takes [.nop, .work, .ready, .workW1] ∧
      KeepsContract ([.work] ++ [.take]) oneShort ∧ KeepsContract ([.nop, .work, .ready, .workW1] ++ [.take]) oneShort ∧
      (∃ t, runScript ([.work] ++ [.take]) oneShort = .next t) ∧
      ∃ u, runScript ([.nop, .work, .ready, .workW1] ++ [.take]) oneShort = .next u :=
  ⟨by decide, by decide, by decide, oneShort_keeps.1, oneShort_keeps.2, runScript_total _ _, runScript_total _ _⟩

/-- The state a START may find: idle, with the leftovers of an earlier transmission. -/
theorem witness_startHidesThePast :
    { State.reset with out := 0x55, apat := 0x80, msr := 0xFF, mbit := 3, mbyte := 1, bitlen := 3 }.inflight = false ∧
      ∃ is t, KeepsContract (.start 0 0 8 :: is) State.reset ∧ runScript (.start 0 0 8 :: is) State.reset = .next t :=
  ⟨rfl, [.ready, .work, .nop, .done], by
    simp only [keepsContract_cons]
    obtain ⟨t, ht⟩ := runScript_total (.start 0 0 8 :: [.ready, .work, .nop, .done]) State.reset
    exact ⟨t, ⟨rfl, rfl, rfl, rfl, rfl, trivial⟩, ht⟩⟩

theorem witness_streamLength : ∃ d, d = descriptorFor Config.device.params 255 := ⟨_, rfl⟩

theorem witness_startPendsTheStream : State.reset.inflight = false ∧ State.reset.fault = none := by decide

theorem witness_workKeepsPending :
    RangeInv busy ∧ FlowInv busy ∧ busy.inflight = true ∧ isWork .workW6 = true ∧ ∃ t, exec .workW6 busy = .next t :=
  ⟨busy_inv.1, busy_inv.2, rfl, by decide, _, rfl⟩

theorem witness_takeDeliversNextPending :
    { busy with needed := 0 }.needed = 0 ∧ ∃ t, exec .take { busy with needed := 0 } = .next t := ⟨rfl, _, rfl⟩

theorem witness_sendDeliversWholeStream : State.reset.inflight = false := by decide

/-- A zero-length message fills whole bytes. -/
theorem witness_streamEndsInZeros :
    ∃ d, d = descriptorFor Config.device.params 0 ∧ (payloadBits d 0 (min (0#8).toNat 128)).length % 8 = 0 :=
  ⟨_, rfl, rfl⟩

theorem witness_zeroLengthMessage :
    (∃ d, d = descriptorFor Config.device.params 3) ∧ State.reset.inflight = false ∧ State.reset.fault = none ∧
      noStart [.work, .nop, .ready] = true ∧ KeepsContract [.start 3 0 0, .work, .nop, .ready] State.reset := by
  simp only [keepsContract_cons]
  exact ⟨⟨_, rfl⟩, rfl, rfl, by decide, rfl, rfl, rfl, rfl, trivial⟩

/-- A START while busy, an early TAKE, a fault mark, and a script that keeps the contract. -/
theorem witness_faultedRunSatisfiesNothing :
    (∃ u, runScript [.nop] busy = .next u ∧ u.inflight = true ∧ u.needed ≠ 0) ∧
    ({ busy with fault := some (.underrun 5) }.fault ≠ none ∧
      ∃ t, Host.Core.run core 1 { busy with fault := some (.underrun 5) } = .next t) ∧
    KeepsContract [.work, .take] oneShort ∧ oneShort.fault = none :=
  ⟨⟨busy, rfl, rfl, by decide⟩, ⟨by decide, _, rfl⟩, oneShort_keeps.1, rfl⟩

/-! ### A complete transmission on the open device

The device's configuration is opaque, so no fixed script completes on it; that some script does is shown by a measure that
every work step lowers. -/

/-- What the measure needs of a transmission in progress. -/
structure Progress (s : State) : Prop where
  inflight : s.inflight = true
  mbit_le : s.mbit.toNat ≤ s.bitlen.toNat
  zlen_le : s.zlen.toNat ≤ 8
  olen_le : s.olen.toNat ≤ 8
  sentinel : s.olen = 0 → s.needed = 0

/-- Bounds the work of the payload and the flush that is not yet in the active pattern. -/
def payloadTodo (zlen : BitVec 4) (n : Nat) : Nat := if zlen = 0 then 0 else 32 + 16 * n

/-- Counts the sentinel action. -/
def sentinelTodo (olen : BitVec 4) : Nat := if olen = 0 then 0 else 1

/-- An upper bound of the work still to do. -/
def todo (s : State) : Nat :=
  s.prem.toNat + s.alen.toNat + payloadTodo s.zlen (s.bitlen.toNat - s.mbit.toNat) + sentinelTodo s.olen

theorem payloadTodo_of_ne {zlen : BitVec 4} (h : zlen ≠ 0) (n : Nat) : payloadTodo zlen n = 32 + 16 * n := if_neg h

theorem sentinelTodo_of_ne {olen : BitVec 4} (h : olen ≠ 0) : sentinelTodo olen = 1 := if_neg h

theorem workOn_progress {c : Parameters} {s : State} (h : Progress s) (hn : s.needed ≠ 0) :
    Progress (workOn c s) ∧ todo (workOn c s) < todo s := by
  obtain ⟨h1, h2, h3, h4, h5⟩ := h
  have ho : s.olen ≠ 0 := fun h => hn (h5 h)
  have hnn := s.needed.isLt
  rcases workOn_cases c s with ⟨g, -⟩ | ⟨-, g2, e⟩ | ⟨-, g2, g3, e⟩ | ⟨-, g2, g3, g4, e⟩ | ⟨-, g2, g3, g4, g5, e⟩ |
    ⟨-, g2, g3, g4, g5, e⟩
  · exact absurd g hn
  · have := toNat_ne_zero g2
    have e1 : (actW2 c s).prem.toNat = s.prem.toNat - 1 := by simp [BitVec.toNat_sub]; omega
    rw [e]
    refine ⟨⟨h1, h2, h3, h4, fun h => absurd h ho⟩, ?_⟩
    simp only [todo, e1, actW2_alen, actW2_zlen, actW2_bitlen, actW2_mbit, actW2_olen]
    omega
  · have := toNat_ne_zero g3
    have e1 : (actW3 s).alen.toNat = s.alen.toNat - 1 := by simp [BitVec.toNat_sub]; omega
    rw [e]
    refine ⟨⟨h1, h2, h3, h4, fun h => absurd h ho⟩, ?_⟩
    simp only [todo, e1, actW3_prem, actW3_zlen, actW3_bitlen, actW3_mbit, actW3_olen]
    omega
  · rw [e]
    refine ⟨⟨h1, h2, h3, by simp, fun _ => rfl⟩, ?_⟩
    have h0 : sentinelTodo (actW4 s).olen = 0 := rfl
    simp only [todo, h0, sentinelTodo_of_ne ho, actW4_prem, actW4_alen, actW4_zlen, actW4_bitlen, actW4_mbit]
    omega
  · rw [e]
    refine ⟨⟨h1, h2, by simp, h4, fun h => absurd h ho⟩, ?_⟩
    have e1 : (actW5 s).alen.toNat = s.needed.toNat + 8 := by simp
    have h0 (n : Nat) : payloadTodo (actW5 s).zlen n = 0 := rfl
    simp only [todo, e1, h0, payloadTodo_of_ne g4, actW5_prem, actW5_olen]
    omega
  · have g5' : s.mbit.toNat ≠ s.bitlen.toNat := fun h => g5 (BitVec.eq_of_toNat_eq h)
    have hb := s.bitlen.isLt
    have e1 : (actW6 s).mbit.toNat = s.mbit.toNat + 1 := by simp [BitVec.toNat_add]; omega
    have e2 : (actW6 s).alen.toNat ≤ 8 := by simp only [actW6_alen]; split <;> simp <;> omega
    rw [e]
    refine ⟨⟨h1, by rw [e1, actW6_bitlen]; omega, h3, h4, fun h => absurd h ho⟩, ?_⟩
    simp only [todo, e1, payloadTodo_of_ne g4, actW6_prem, actW6_zlen, actW6_bitlen, actW6_olen]
    omega

/-- From every transmission in progress some script that keeps the contract ends with the completing TAKE. -/
theorem exists_completing : ∀ (k : Nat) (s : State), Progress s → todo s ≤ k →
    ∃ is t, noStart is = true ∧ KeepsContract (is ++ [.take]) s ∧ runScript (is ++ [.take]) s = .next t ∧
      t.inflight = false := by
  intro k
  induction k with
  | zero =>
    intro s h hk
    have ho : s.olen = 0 := by
      by_contra hne
      simp [todo, sentinelTodo_of_ne hne] at hk
    refine ⟨[], takeByte s, rfl, ?_, by simp [nextOf], ?_⟩
    · simp [KeepsContract, contractOk, readyFlag, h.sentinel ho, h.inflight]
    · rw [takeByte_eq]; simp [doneFlag, ho]
  | succ k ih =>
    intro s h hk
    by_cases hn : s.needed = 0
    · by_cases ho : s.olen = 0
      · refine ⟨[], takeByte s, rfl, ?_, by simp [nextOf], ?_⟩
        · simp [KeepsContract, contractOk, readyFlag, hn, h.inflight]
        · rw [takeByte_eq]; simp [doneFlag, ho]
      · have hp : Progress (takeByte s) := by
          rw [takeByte_eq]
          exact ⟨by simpa [doneFlag, h.inflight] using ho, h.mbit_le, h.zlen_le, h.olen_le, fun h => absurd h ho⟩
        have ht : todo (takeByte s) = todo s := by rw [takeByte_eq]; rfl
        obtain ⟨q1, q2⟩ := workOn_progress (c := Config.device.params) hp (by rw [takeByte_eq]; simp)
        obtain ⟨is, t, a, b, c, d⟩ := ih _ q1 (by omega)
        refine ⟨.take :: .work :: is, t, by simpa [noStart, isStart] using a, ?_, by simpa [nextOf] using c, d⟩
        simp only [List.cons_append, keepsContract_cons]
        exact ⟨by simp [contractOk, readyFlag, hn, h.inflight], rfl, b⟩
    · obtain ⟨q1, q2⟩ := workOn_progress (c := Config.device.params) h hn
      obtain ⟨is, t, a, b, c, d⟩ := ih _ q1 (by omega)
      refine ⟨.work :: is, t, by simpa [noStart, isStart] using a, ?_, by simpa [nextOf] using c, d⟩
      simp only [List.cons_append, keepsContract_cons]
      exact ⟨rfl, b⟩

/-- A complete transmission from reset: what the statements about whole transmissions assume of their scripts. -/
theorem witness_wholeTransmission :
    ∃ is t d, d = descriptorFor Config.device.params 0 ∧ noStart is = true ∧
      KeepsContract (.start 0 0 8 :: (is ++ [.take])) State.reset ∧
      runScript (.start 0 0 8 :: (is ++ [.take])) State.reset = .next t ∧ t.inflight = false := by
  have hd := (wf_clauses device_wf).2.2.1 _ (descriptorFor_mem device_wf 0)
  have ho : (descriptorFor Config.device.params 0).oneLen ≠ 0 := by
    intro h
    rw [h] at hd
    exact absurd hd.2.1 (by decide)
  have hp : Progress (nextOf (.start 0 0 8) State.reset) := by
    simp only [nextOf, startOn_eq]
    exact ⟨rfl, Nat.zero_le _, hd.1.2, hd.2.2, fun h => absurd h ho⟩
  obtain ⟨is, t, a, b, c, d⟩ := exists_completing _ _ hp (Nat.le_refl _)
  refine ⟨is, t, _, rfl, a, ?_, by rw [runScript_cons]; exact c, d⟩
  rw [keepsContract_cons]
  exact ⟨rfl, b⟩

/-- The same for `StreamLaw` and `CompletionExactlyOnce`, whose script is written in one piece. -/
theorem witness_streamLaw :
    ∃ is t, noStart is = true ∧ State.reset.inflight = false ∧ KeepsContract (.start 0 0 8 :: is) State.reset ∧
      runScript (.start 0 0 8 :: is) State.reset = .next t ∧ t.inflight = false := by
  obtain ⟨is, t, -, -, a, b, c, d⟩ := witness_wholeTransmission
  exact ⟨is ++ [.take], t, by simp [noStart] at *; exact ⟨a, rfl⟩, rfl, b, c, d⟩

end Sys2Proof.Tests
end

section
/-! The command port and the step that serves it (R8, R63, R65): the port word round trip, what the ports of an
operation present, and a step on a presented sample; then the statements about it. -/

namespace Sys2Proof

/-- A sample written as a port word is read back port by port: the layout loses no bit (R65). -/
@[simp] theorem PortSample.ofWord_toWord (p : PortSample) : PortSample.ofWord p.toWord = p := by
  obtain ⟨reset, cmd, protocolIndex, bitLength, message⟩ := p
  have hword := toWord_toNat ⟨reset, cmd, protocolIndex, bitLength, message⟩
  have hcmd := cmd.isLt
  have hindex := protocolIndex.isLt
  have hlength := bitLength.isLt
  have hmessage := message.isLt
  simp only [PortSample.ofWord, PortSample.mk.injEq, ← BitVec.toNat_inj, BitVec.extractLsb'_toNat,
    Nat.shiftRight_eq_div_pow, hword]
  refine ⟨?topBit, ?_, ?_, ?_, ?_⟩
  case topBit =>
    rw [BitVec.getLsbD, hword, Nat.testBit_eq_decide_div_mod_eq]
    cases reset <;> simp <;> omega
  all_goals omega

/-- The table's word of the port's full width is the port word itself. -/
@[simp] theorem tableWord_toNat (w : BitVec portBits) : tableWord portBits w.toNat = w := by
  rw [tableWord, Nat.mod_eq_of_lt w.isLt, BitVec.ofNat_toNat, BitVec.setWidth_eq]

/-- Every sample presents an operation that has a code point of `cmd` (R63, R68). -/
theorem decode_wellFormed (p : PortSample) : (decode p).wellFormed = true := by
  unfold decode
  split_ifs <;> rfl

/-- The ports of an operation present the command that carries it (R63). -/
@[simp] theorem decode_encode (i : Instr) : decode (encode i) = i.onPort := by
  cases i <;> rfl

/-- Presenting an operation leaves the reset input low (R65). -/
@[simp] theorem encode_reset (i : Instr) : (encode i).reset = false := by
  cases i <;> rfl

end Sys2Proof

namespace Sys2Proof.Machine

/-- A step on a presented sample with the reset input low executes its command with that sample consumed (R8). -/
theorem step_of_presented {s : State} {p : PortSample} {rest : List PortSample} (hinput : s.input = p :: rest)
    (hreset : p.reset = false) : step s = exec (decode p) { s with input := rest } := by
  simp [step, fetch_cons hinput, hreset]

/-- Presenting the port word of an operation puts the operation's ports before the other samples (log entry 2). -/
theorem withFetchWord_encodeWord_input (i : Instr) (s : State) :
    (s.withFetchWord portBits (encodeWord i).toNat).input = encode i :: s.input := by
  simp [State.withFetchWord, encodeWord]

/-- START writes all of `MSG` from the `message` operand (R82). -/
theorem exec_start_msg {p : Byte} {m : Message} {n : Byte} {s t : State} (h : exec (.start p m n) s = .next t) :
    t.msg = Memory.ofMessage m := by
  rw [exec_next h]
  simp only [nextOf, startOn_eq, loadTransmission_msg]

/-- A loaded buffer holds message bit `k` at `MSG[k div 8][7 - (k mod 8)]` (R12, R43). -/
theorem bufferBit_ofMessage (m : Message) {k : Nat} (hk : k < 128) :
    bufferBit (Memory.ofMessage m) k = messageBit m k := by
  have hbyte : k / 8 < 16 := by omega
  rw [bufferBit, read_ofMessage, if_pos hbyte, getLsbD_messageByte m hbyte (Nat.mod_lt k (by decide)),
    Nat.div_add_mod]

/-- Settles O5: the step rule of a presented sample, and that every sample presents a command. -/
theorem stepRunsPresentedCommand : Obligations.StepRunsPresentedCommand := by
  intro s p rest hinput hreset
  exact ⟨decode_wellFormed p, step_of_presented hinput hreset⟩

/-- Settles O7: the presented word reads back as the operation's ports, which the next step samples and decodes. -/
theorem presentedWordRunsNext : Obligations.PresentedWordRunsNext := by
  intro i s
  rw [step_of_presented (withFetchWord_encodeWord_input i s) (encode_reset i), decode_encode]
  rfl

/-- Settles O22: START loads the buffer from the port, and a loaded buffer has the port's bits, first bit on top. -/
theorem startLoadsMessageMsbFirst : Obligations.StartLoadsMessageMsbFirst := by
  intro p m n s t k h hk
  rw [exec_start_msg h]
  exact bufferBit_ofMessage m hk

end Sys2Proof.Machine
end

section
/-! The ranges of R31: the reset input and START establish them from any state, and every operation and every step keeps
them, contract or not. -/

namespace Sys2Proof.Machine

/-- A count that is not 0 loses exactly 1: the decrements of W2 and W3 do not wrap (R31). -/
theorem toNat_sub_one {w : Nat} {x : BitVec w} (hx : x ≠ 0) : (x - 1).toNat = x.toNat - 1 := by
  have hpos := toNat_ne_zero hx
  have hlt := x.isLt
  have hone : (1 : BitVec w).toNat = 1 := (BitVec.toNat_ofNat 1 w).trans (Nat.mod_eq_of_lt (by omega))
  rw [BitVec.toNat_sub_of_le (by rw [BitVec.le_def, hone]; omega), hone]

/-- What W6 leaves in the active count is one of the two symbol lengths (R96). -/
theorem actW6_alen_le {s : State} {bound : Nat} (hz : s.zlen.toNat ≤ bound) (ho : s.olen.toNat ≤ bound) :
    (actW6 s).alen.toNat ≤ bound := by
  rw [actW6_alen]
  split <;> rw [symbolCount_toNat] <;> assumption

theorem rangeInv_reset : RangeInv State.reset where
  needed_le := by decide
  prem_le := by decide
  window := by decide
  mbit_le := by decide
  bitlen_le := by decide
  mbyte_eq := by decide
  mbyte_le := by decide
  zlen_le := by decide
  olen_le := by decide
  alen_le := by decide
  tick_lt := Nat.two_pow_pos _
  msg_wf := memory_wf_nil

theorem flowInv_reset : FlowInv State.reset where
  idle := by decide
  idle_of_not_inflight := by decide
  sentinel_ready := by decide
  preamble_first := by decide
  shift_register := by decide

/-- The reset input leaves the registers of the reset state and a canonical buffer (R32, R137). -/
theorem rangeInv_assertReset (s : State) : RangeInv (assertReset s) :=
  { rangeInv_reset with msg_wf := ofMessage_wf _ }

theorem rangeInv_emit {s : State} (e : Event) (h : RangeInv s) : RangeInv (emit e s) := { h with }

/-- START loads a catalog descriptor, whose ranges are those of R7, and a clamped length, whatever was there before. -/
theorem rangeInv_startOn (p : Byte) (m : Message) (n : Byte) (s : State) :
    RangeInv (startOn Config.device.params p m n s) := by
  have hmem := descriptorFor_mem device_wf p
  obtain ⟨-, -, hsymbols, hwindow, htick⟩ := wf_clauses device_wf
  obtain ⟨⟨-, hzero⟩, -, hone⟩ := hsymbols _ hmem
  rw [startOn_eq]
  exact {
    needed_le := Nat.le_refl 8
    prem_le := Nat.le_of_lt_succ (BitVec.isLt _)
    window := hwindow _ hmem
    mbit_le := Nat.zero_le _
    bitlen_le := by simp
    mbyte_eq := by simp
    mbyte_le := Nat.zero_le _
    zlen_le := hzero
    olen_le := hone
    alen_le := Nat.zero_le _
    tick_lt := htick _ hmem
    msg_wf := ofMessage_wf m }

theorem rangeInv_takeByte {s : State} (h : RangeInv s) : RangeInv (takeByte s) := by
  rw [takeByte_eq]
  exact { h with needed_le := Nat.le_refl 8 }

theorem rangeInv_actW2 {s : State} (c : Parameters) (h : RangeInv s) (hprem : s.prem ≠ 0) : RangeInv (actW2 c s) := by
  have hwindow := h.window
  have hpos := toNat_ne_zero hprem
  have hdown : (actW2 c s).prem.toNat = s.prem.toNat - 1 := toNat_sub_one hprem
  have hup : (actW2 c s).pcur.toNat = s.pcur.toNat + 1 := BitVec.toNat_add_of_lt (by simp; omega)
  exact { h with
    needed_le := Nat.zero_le _
    prem_le := by omega
    window := by omega }

theorem rangeInv_actW3 {s : State} (h : RangeInv s) (hneeded : s.needed ≠ 0) (halen : s.alen ≠ 0) :
    RangeInv (actW3 s) :=
  { h with
    needed_le := (toNat_sub_one hneeded).trans_le ((Nat.sub_le _ _).trans h.needed_le)
    alen_le := (toNat_sub_one halen).trans_le ((Nat.sub_le _ _).trans h.alen_le) }

theorem rangeInv_actW4 {s : State} (h : RangeInv s) : RangeInv (actW4 s) :=
  { h with
    needed_le := Nat.zero_le _
    olen_le := Nat.zero_le _ }

theorem rangeInv_actW5 {s : State} (h : RangeInv s) : RangeInv (actW5 s) :=
  { h with
    alen_le := (flushCount_toNat s.needed).trans_le (Nat.add_le_add_right h.needed_le 8)
    zlen_le := Nat.zero_le _ }

/-- W6 moves the bit cursor by 1 within the length, and the byte cursor with it exactly at a byte boundary. -/
theorem rangeInv_actW6 {s : State} (h : RangeInv s) (hleft : s.mbit ≠ s.bitlen) : RangeInv (actW6 s) := by
  have hle := h.mbit_le
  have hlen := h.bitlen_le
  have hbyte := h.mbyte_eq
  have hlt : s.mbit.toNat < s.bitlen.toNat := Nat.lt_of_le_of_ne hle fun he => hleft (BitVec.eq_of_toNat_eq he)
  have hbit : (actW6 s).mbit.toNat = s.mbit.toNat + 1 := BitVec.toNat_add_of_lt (by simp; omega)
  have hcursor : (actW6 s).mbyte.toNat = (s.mbit.toNat + 1 + 7) / 8 := by
    rw [actW6_mbyte]
    split <;> rename_i haligned <;> rw [byteAligned_iff] at haligned
    · rw [BitVec.toNat_add_of_lt (by simp; omega)]
      simp
      omega
    · omega
  exact { h with
    mbit_le := hbit.trans_le hlt
    mbyte_eq := by rw [hcursor, hbit]
    mbyte_le := by omega
    alen_le := actW6_alen_le (h.zlen_le.trans (by decide)) (h.olen_le.trans (by decide)) }

theorem rangeInv_workOn {s : State} (c : Parameters) (h : RangeInv s) : RangeInv (workOn c s) := by
  rcases workOn_cases c s with ⟨-, e⟩ | ⟨-, hprem, e⟩ | ⟨hneeded, -, halen, e⟩ | ⟨-, -, -, -, e⟩ |
    ⟨-, -, -, -, -, e⟩ | ⟨-, -, -, -, hleft, e⟩ <;> rw [e]
  · exact h
  · exact rangeInv_actW2 c h hprem
  · exact rangeInv_actW3 h hneeded halen
  · exact rangeInv_actW4 h
  · exact rangeInv_actW5 h
  · exact rangeInv_actW6 h hleft

/-- R31 for one operation of any kind, in any state that has the ranges. -/
theorem rangeInv_nextOf {s : State} (i : Instr) (h : RangeInv s) : RangeInv (nextOf i s) := by
  cases i with
  | nop => exact h
  | start p m n => exact rangeInv_startOn p m n s
  | work | workW1 | workW2 | workW3 | workW4 | workW5 | workW6 => exact rangeInv_workOn _ h
  | take => exact rangeInv_takeByte h
  | ready | done | descriptorFor => exact rangeInv_emit _ h

/-- Settles O13: reset and START establish the ranges, and each operation keeps them. -/
theorem rangesHoldUnderAnyCommands : Obligations.RangesHoldUnderAnyCommands := by
  refine ⟨rangeInv_reset, fun p m n s t hexec => ?_, fun i s t h hexec => ?_⟩ <;> rw [exec_next hexec]
  · exact rangeInv_startOn p m n s
  · exact rangeInv_nextOf i h

/-- Settles O14: a step is the reset input or one operation, after a sample is consumed, which no range speaks of. -/
theorem stepKeepsRanges : Obligations.StepKeepsRanges := by
  intro s t h hstep
  obtain ⟨rest, rfl | ⟨i, -, rfl⟩⟩ := step_cases hstep
  · exact rangeInv_assertReset _
  · exact rangeInv_nextOf i { h with }

/-- Settles O9: the values of R32 as `State.reset` lists them, and the flags and the phase computed from them. -/
theorem resetValues : Obligations.ResetValues := ⟨by decide, rfl, rfl, rfl⟩

/-- Settles O12. -/
theorem resetMeetsInvariants : Obligations.ResetMeetsInvariants := ⟨rangeInv_reset, flowInv_reset⟩

end Sys2Proof.Machine
end

section
/-! The three flags of R27: what sets and clears each of them, operation by operation. -/

namespace Sys2Proof.Machine

theorem readyFlag_iff (s : State) : readyFlag s = true ↔ s.needed = 0 := by simp [readyFlag]

theorem doneSentinel_iff (s : State) : doneSentinel s = true ↔ s.zlen = 0 := by simp [doneSentinel]

theorem doneFlag_iff (s : State) : doneFlag s = true ↔ s.olen = 0 := by simp [doneFlag]

/-- Both symbol lengths of a descriptor the lookup finds are at least 1 (R7). -/
theorem descriptorFor_lengths_ne_zero (p : Byte) :
    (descriptorFor Config.device.params p).zeroLen ≠ 0 ∧ (descriptorFor Config.device.params p).oneLen ≠ 0 := by
  obtain ⟨-, -, hsymbols, -, -⟩ := wf_clauses device_wf
  obtain ⟨⟨hzero, -⟩, hone, -⟩ := hsymbols _ (descriptorFor_mem device_wf p)
  constructor <;> intro h <;> simp [h] at hzero hone

/-- START clears all three flags, the two length flags because no descriptor has an empty symbol (R27, R7). -/
theorem flags_startOn (p : Byte) (m : Message) (n : Byte) (s : State) :
    readyFlag (startOn Config.device.params p m n s) = false ∧
      doneSentinel (startOn Config.device.params p m n s) = false ∧
      doneFlag (startOn Config.device.params p m n s) = false := by
  obtain ⟨hzero, hone⟩ := descriptorFor_lengths_ne_zero p
  rw [startOn_eq]
  exact ⟨rfl, beq_false_of_ne hzero, beq_false_of_ne hone⟩

/-- TAKE clears `ready` and leaves the other two flags (R27, R103). -/
theorem flags_takeByte (s : State) :
    readyFlag (takeByte s) = false ∧ doneSentinel (takeByte s) = doneSentinel s ∧
      doneFlag (takeByte s) = doneFlag s := by
  rw [takeByte_eq]
  exact ⟨rfl, rfl, rfl⟩

/-- A work step completes the byte by W2, by W4, or by the last bit of W3 (R27). -/
theorem readyFlag_workOn (c : Parameters) (s : State) :
    readyFlag (workOn c s) = (readyFlag s || decide (selectAction s = .w2 ∨ selectAction s = .w4 ∨
      (selectAction s = .w3 ∧ s.needed = 1))) := by
  cases hact : selectAction s with
  | w3 =>
    have hneeded : s.needed = 0 → s.needed = 1 := fun h => absurd h (selectAction_w3.mp hact).1
    have hlast : s.needed - 1 = 0 ↔ s.needed = 1 := sub_eq_zero
    rw [Bool.eq_iff_iff, readyFlag_iff, workOn, hact, perform, actW3_needed, hlast]
    simpa [readyFlag_iff] using hneeded
  | _ => simp [workOn, hact, perform, readyFlag]

/-- A work step sets the done sentinel by W5 alone (R27). -/
theorem doneSentinel_workOn (c : Parameters) (s : State) :
    doneSentinel (workOn c s) = (doneSentinel s || decide (selectAction s = .w5)) := by
  cases hact : selectAction s <;> simp [workOn, hact, perform, doneSentinel]

/-- A work step sets `done` by W4 alone (R27). -/
theorem doneFlag_workOn (c : Parameters) (s : State) :
    doneFlag (workOn c s) = (doneFlag s || decide (selectAction s = .w4)) := by
  cases hact : selectAction s <;> simp [workOn, hact, perform, doneFlag]

/-- Settles O35: the flags as R27 defines them, their reset values, and each kind of operation's effect on them. -/
theorem flagsChangeOnlyAsListed : Obligations.FlagsChangeOnlyAsListed := by
  refine ⟨⟨rfl, rfl, rfl⟩, fun s => ⟨readyFlag_iff s, doneSentinel_iff s, doneFlag_iff s⟩, fun i s t hexec => ?_⟩
  rw [exec_next hexec]
  cases i with
  | start p m n => exact flags_startOn p m n s
  | take => simpa [isStart, isWork, Instr.code, nextOf] using flags_takeByte s
  | work | workW1 | workW2 | workW3 | workW4 | workW5 | workW6 =>
    exact ⟨readyFlag_workOn _ s, doneSentinel_workOn _ s, doneFlag_workOn _ s⟩
  | nop | ready | done | descriptorFor =>
    simp [isStart, isWork, Instr.code, nextOf, readyFlag, doneSentinel, doneFlag]

end Sys2Proof.Machine
end

section
/-! R33: what happened before a START stays hidden. START leaves `APAT`, `MSR` and `OUT` as they were (R84), and each of
them is read only in the part that the transmission itself has written. -/

namespace Sys2Proof.Machine

/-- `s` without what START leaves as it was: the three registers of R84, the run record and the environment's side. -/
def State.forgetPast (s : State) : State :=
  { s with apat := 0, msr := 0, out := 0, fault := none, trace := [], input := [], resets := 0 }

/-- Two runs behave alike from a START on, which found the run records `past₁` and `past₂`: every register START writes
agrees, `APAT` agrees while bits of it are to be sent (R93), `MSR` between two byte boundaries (R19, R96), `OUT` in the
bits already built (R103), and the same events have been observed since. -/
structure AlikeSince (past₁ past₂ : List Event) (a b : State) : Prop where
  forgetPast_eq : a.forgetPast = b.forgetPast
  pattern : a.alen ≠ 0 → a.apat = b.apat
  shift_register : byteAligned a.mbit = false → a.msr = b.msr
  built : builtBits a = builtBits b
  events : ∃ es, a.trace = es ++ past₁ ∧ b.trace = es ++ past₂

/-- W6 as an update by the message byte it takes its bit from. -/
def State.takeTopBit (s : State) (m : Byte) : State :=
  { s with
    mbyte := if byteAligned s.mbit then s.mbyte + 1 else s.mbyte
    alen := if topBit m then symbolCount s.olen else symbolCount s.zlen
    apat := if topBit m then s.opat else s.zpat
    mbit := s.mbit + 1
    msr := shiftIn m false }

/-- The message byte is all that W6 takes from what a START may have left as it was. -/
theorem actW6_eq (s : State) : actW6 s = s.takeTopBit (currentMessageByte s) := rfl

theorem builtBits_congr {a b : State} (hneeded : a.needed = b.needed) (hout : a.out = b.out) :
    builtBits a = builtBits b := by
  simp only [builtBits, hneeded, hout]

section
variable {past₁ past₂ : List Event} {a b : State}

/-- A value that does not look at what a START leaves as it was is the same in both runs. -/
theorem AlikeSince.congr {α : Type} (h : AlikeSince past₁ past₂ a b) (f : State → α)
    (hf : ∀ s, f s.forgetPast = f s) : f a = f b := by
  rw [← hf a, h.forgetPast_eq, hf b]

theorem AlikeSince.needed_eq (h : AlikeSince past₁ past₂ a b) : a.needed = b.needed :=
  h.congr State.needed fun _ => rfl

theorem AlikeSince.doneFlag_eq (h : AlikeSince past₁ past₂ a b) : doneFlag a = doneFlag b :=
  h.congr doneFlag fun _ => rfl

theorem AlikeSince.readyFlag_eq (h : AlikeSince past₁ past₂ a b) : readyFlag a = readyFlag b :=
  h.congr readyFlag fun _ => rfl

/-- A complete byte is the same in both runs: all eight bits of it have been built since the START. -/
theorem AlikeSince.out_eq (h : AlikeSince past₁ past₂ a b) (hready : a.needed = 0) : a.out = b.out := by
  rw [← byteOfBits_builtBits hready, h.built, byteOfBits_builtBits (h.needed_eq ▸ hready)]

/-- The byte W6 takes its bit from is the same: it comes from `MSG` at a byte boundary, from `MSR` between two. -/
theorem AlikeSince.currentMessageByte_eq (h : AlikeSince past₁ past₂ a b) :
    currentMessageByte a = currentMessageByte b := by
  have hmbit : a.mbit = b.mbit := h.congr State.mbit fun _ => rfl
  have hread : a.msg.read a.mbyte.toNat = b.msg.read b.mbyte.toNat :=
    h.congr (fun s => s.msg.read s.mbyte.toNat) fun _ => rfl
  cases haligned : byteAligned a.mbit
  · simp [currentMessageByte, ← hmbit, haligned, h.shift_register haligned]
  · simp [currentMessageByte, ← hmbit, haligned, hread]

theorem AlikeSince.emit (h : AlikeSince past₁ past₂ a b) (e : Event) :
    AlikeSince past₁ past₂ (emit e a) (emit e b) :=
  { h with
    events := by
      obtain ⟨es, ha, hb⟩ := h.events
      exact ⟨e :: es, by simp [ha], by simp [hb]⟩ }

theorem AlikeSince.actW2 (h : AlikeSince past₁ past₂ a b) (c : Parameters) :
    AlikeSince past₁ past₂ (actW2 c a) (actW2 c b) :=
  { h with
    forgetPast_eq := h.congr (fun s => (Machine.actW2 c s).forgetPast) fun _ => rfl
    built := builtBits_congr rfl (h.congr (fun s => poolRead c s.pcur) fun _ => rfl) }

/-- W3 sends the same bit in both runs, since the active pattern is not exhausted. -/
theorem AlikeSince.actW3 (h : AlikeSince past₁ past₂ a b) (hneeded : a.needed ≠ 0) (hle : a.needed.toNat ≤ 8)
    (halen : a.alen ≠ 0) : AlikeSince past₁ past₂ (actW3 a) (actW3 b) :=
  have hpattern := h.pattern halen
  { h with
    forgetPast_eq := h.congr (fun s => (Machine.actW3 s).forgetPast) fun _ => rfl
    pattern := fun _ => by rw [actW3_apat, actW3_apat, hpattern]
    built := by
      rw [builtBits_actW3 a hneeded hle, builtBits_actW3 b (h.needed_eq ▸ hneeded) (h.needed_eq ▸ hle), h.built,
        hpattern] }

theorem AlikeSince.actW4 (h : AlikeSince past₁ past₂ a b) : AlikeSince past₁ past₂ (actW4 a) (actW4 b) :=
  { h with
    forgetPast_eq := h.congr (fun s => (Machine.actW4 s).forgetPast) fun _ => rfl
    built := rfl }

theorem AlikeSince.actW5 (h : AlikeSince past₁ past₂ a b) : AlikeSince past₁ past₂ (actW5 a) (actW5 b) :=
  { h with
    forgetPast_eq := h.congr (fun s => (Machine.actW5 s).forgetPast) fun _ => rfl
    pattern := fun _ => rfl }

theorem AlikeSince.actW6 (h : AlikeSince past₁ past₂ a b) : AlikeSince past₁ past₂ (actW6 a) (actW6 b) := by
  have hbyte := h.currentMessageByte_eq
  rw [actW6_eq, actW6_eq, ← hbyte]
  exact { h with
    forgetPast_eq := h.congr (fun s => (s.takeTopBit (currentMessageByte a)).forgetPast) fun _ => rfl
    pattern := fun _ => h.congr (fun s => (s.takeTopBit (currentMessageByte a)).apat) fun _ => rfl
    shift_register := fun _ => rfl }

/-- Two alike states select the same action, and it leaves them alike (R88). -/
theorem AlikeSince.workOn (h : AlikeSince past₁ past₂ a b) (c : Parameters) (hle : a.needed.toNat ≤ 8) :
    AlikeSince past₁ past₂ (workOn c a) (workOn c b) := by
  have hselect : selectAction a = selectAction b := h.congr selectAction fun _ => rfl
  rw [Machine.workOn, Machine.workOn, ← hselect]
  cases hact : selectAction a with
  | w1 => exact h
  | w2 => exact h.actW2 c
  | w3 =>
    obtain ⟨hneeded, -, halen⟩ := selectAction_w3.mp hact
    exact h.actW3 hneeded hle halen
  | w4 => exact h.actW4
  | w5 => exact h.actW5
  | w6 => exact h.actW6

/-- A TAKE of a complete byte returns the same byte in both runs and is the completing one in both or in neither. -/
theorem AlikeSince.takeByte (h : AlikeSince past₁ past₂ a b) (hready : a.needed = 0) :
    AlikeSince past₁ past₂ (takeByte a) (takeByte b) := by
  have hinflight : a.inflight = b.inflight := h.congr State.inflight fun _ => rfl
  obtain ⟨es, ha, hb⟩ := h.events
  rw [takeByte_eq, takeByte_eq]
  exact { h with
    forgetPast_eq :=
      h.congr (fun s => { s with needed := 8, inflight := s.inflight && !doneFlag s }.forgetPast) fun _ => rfl
    built := by rw [builtBits_none rfl, builtBits_none rfl]
    events := by
      simp only [← hinflight, ← h.out_eq hready, ← h.doneFlag_eq, ha, hb]
      split
      · exact ⟨.complete :: .byte a.out (doneFlag a) :: es, rfl, rfl⟩
      · exact ⟨.byte a.out (doneFlag a) :: es, rfl, rfl⟩ }

/-- A START makes any two states alike: it writes every other register from its operands (R81, R84). -/
theorem alikeSince_startOn (c : Parameters) (p : Byte) (m : Message) (n : Byte)
    (hevents : ∃ es, a.trace = es ++ past₁ ∧ b.trace = es ++ past₂) :
    AlikeSince past₁ past₂ (startOn c p m n a) (startOn c p m n b) := by
  obtain ⟨es, ha, hb⟩ := hevents
  rw [startOn_eq, startOn_eq, ha, hb]
  exact {
    forgetPast_eq := rfl
    pattern := fun h => absurd rfl h
    shift_register := fun h => absurd h (by simp [byteAligned])
    built := by rw [builtBits_none rfl, builtBits_none rfl]
    events := ⟨.tick (descriptorFor c p).tickPeriod :: es, rfl, rfl⟩ }

/-- Every operation that keeps the contract leaves two alike states alike. -/
theorem AlikeSince.nextOf (h : AlikeSince past₁ past₂ a b) (i : Instr) (hle : a.needed.toNat ≤ 8)
    (hok : contractOk i a = true) : AlikeSince past₁ past₂ (nextOf i a) (nextOf i b) := by
  cases i with
  | nop => exact h
  | start p m n => exact alikeSince_startOn _ p m n h.events
  | work | workW1 | workW2 | workW3 | workW4 | workW5 | workW6 => exact h.workOn _ hle
  | take =>
    simp only [contractOk, Bool.and_eq_true, readyFlag_iff] at hok
    exact h.takeByte hok.1
  | ready => simpa only [Machine.nextOf, h.readyFlag_eq] using h.emit (.ready (readyFlag b))
  | done => simpa only [Machine.nextOf, h.doneFlag_eq] using h.emit (.done (doneFlag b))
  | descriptorFor index => exact h.emit _

/-- So does every script that keeps the contract (R33). -/
theorem AlikeSince.runScript {is : List Instr} {t₁ : State} (h : AlikeSince past₁ past₂ a b) (hrange : RangeInv a)
    (hok : KeepsContract is a) (hrun : runScript is a = .next t₁) :
    ∃ t₂, runScript is b = .next t₂ ∧ AlikeSince past₁ past₂ t₁ t₂ := by
  induction is generalizing a b with
  | nil =>
    cases hrun
    exact ⟨b, rfl, h⟩
  | cons i is ih =>
    rw [keepsContract_cons] at hok
    rw [runScript_cons] at hrun ⊢
    exact ih (h.nextOf i hrange.needed_le hok.1) (rangeInv_nextOf i hrange) hok.2 hrun

end

/-- Settles O24: the START makes the two states alike with the ranges of R31, and the later script keeps them alike. -/
theorem startHidesThePast : Obligations.StartHidesThePast := by
  intro p m n is s₁ s₂ t₁ _ hok hrun
  rw [keepsContract_cons] at hok
  rw [runScript_cons] at hrun ⊢
  have hstart : AlikeSince s₁.trace s₂.trace (nextOf (.start p m n) s₁) (nextOf (.start p m n) s₂) :=
    alikeSince_startOn _ p m n ⟨[], rfl, rfl⟩
  obtain ⟨t₂, hrun₂, halike⟩ := hstart.runScript (rangeInv_startOn p m n s₁) hok.2 hrun
  obtain ⟨es, hes₁, hes₂⟩ := halike.events
  exact ⟨t₂, es, hrun₂, hes₁, hes₂, halike.readyFlag_eq, halike.doneFlag_eq, halike.congr State.tick fun _ => rfl⟩

end Sys2Proof.Machine
end

section
/-! R55 and R125: no operation but START writes `MSG`, and no operation marks `MessageChanged`. -/

namespace Sys2Proof.Machine

/-- No work step writes `MSG` (R55, R101). -/
@[simp] theorem workOn_msg (c : Parameters) (s : State) : (workOn c s).msg = s.msg := by
  rw [workOn]
  cases selectAction s <;> rfl

/-- No work step can break the contract (R122). -/
@[simp] theorem workOn_fault (c : Parameters) (s : State) : (workOn c s).fault = s.fault := by
  rw [workOn]
  cases selectAction s <;> rfl

/-- Only START writes `MSG` (R55). -/
theorem nextOf_msg {i : Instr} (hi : isStart i = false) (s : State) : (nextOf i s).msg = s.msg := by
  cases i with
  | start => cases hi
  | work | workW1 | workW2 | workW3 | workW4 | workW5 | workW6 => exact workOn_msg _ s
  | take => simp only [nextOf, takeByte_eq]
  | nop | ready | done | descriptorFor => rfl

/-- Recording another fault does not make the mark `f`. -/
theorem raiseIf_fault_ne {f g : Fault} {s : State} (broken : Bool) (hg : g ≠ f) (h : s.fault ≠ some f) :
    (raiseIf broken g s).fault ≠ some f := by
  cases broken with
  | false => exact h
  | true =>
    intro hmark
    obtain hold | ⟨-, hnew⟩ := Option.or_eq_some_iff.mp hmark
    · exact h hold
    · exact hg (Option.some.inj hnew)

/-- The two operations that record a fault, START and TAKE, record one of another kind (R122, R125). -/
theorem nextOf_fault_ne_messageChanged {s : State} (i : Instr) (h : s.fault ≠ some .messageChanged) :
    (nextOf i s).fault ≠ some .messageChanged := by
  cases i with
  | start p =>
    have hother : Fault.startWhileBusy p ≠ .messageChanged := nofun
    exact raiseIf_fault_ne s.inflight hother h
  | work | workW1 | workW2 | workW3 | workW4 | workW5 | workW6 => exact workOn_fault _ s ▸ h
  | take =>
    have hother : Fault.underrun s.needed ≠ .messageChanged := nofun
    rw [nextOf, takeByte, completeIf_fault, emit_fault]
    exact raiseIf_fault_ne _ hother h
  | nop | ready | done | descriptorFor => exact h

/-- Settles O47: `nextOf_msg`, and a step is the reset input, which keeps the mark (R127), or one operation. -/
theorem messageHoldsStill : Obligations.MessageHoldsStill := by
  refine ⟨fun i s t hi hexec a => ?_, fun s t h hstep => ?_⟩
  · rw [exec_next hexec, nextOf_msg hi]
  · obtain ⟨rest, rfl | ⟨i, -, rfl⟩⟩ := step_cases hstep
    · exact h
    · exact nextOf_fault_ne_messageChanged i h

end Sys2Proof.Machine
end

section
/-! The encoder and the decoder are inverse to each other: on the words of operations, and on all port words (R63, R65,
R68); and no operation traps. -/

namespace Sys2Proof

/-- Every port word is the word of the ports it stands for: the layout drops no bit of it (R68). -/
@[simp] theorem PortSample.toWord_ofWord (w : BitVec portBits) : (PortSample.ofWord w).toWord = w := by
  have hw : w.toNat < 2 ^ 147 := w.isLt
  have htop : (PortSample.ofWord w).reset.toNat = w.toNat / 2 ^ 146 := by
    rw [PortSample.ofWord, BitVec.getLsbD, Nat.toNat_testBit, Nat.mod_eq_of_lt (by omega)]
  rw [← BitVec.toNat_inj, toWord_toNat, htop]
  simp only [PortSample.ofWord, BitVec.extractLsb'_toNat, Nat.shiftRight_eq_div_pow]
  omega

/-- The `cmd` port is the two low bits of the port word. -/
theorem PortSample.ofWord_cmd_toNat (w : BitVec portBits) : (PortSample.ofWord w).cmd.toNat = w.toNat % 4 := by
  simp [PortSample.ofWord]

/-- The port word of an operation decodes to the command that carries it (R63, R65). -/
@[simp] theorem decodeWord_encodeWord (i : Instr) : decodeWord (encodeWord i) = i.onPort := by
  rw [decodeWord, encodeWord, PortSample.ofWord_toWord, decode_encode]

/-- A command of the port is carried as itself (R63). -/
theorem Instr.onPort_of_wellFormed {i : Instr} (h : i.wellFormed = true) : i.onPort = i := by
  cases i with
  | nop | start | work | take => rfl
  | workW1 | workW2 | workW3 | workW4 | workW5 | workW6 | ready | done | descriptorFor => cases h

/-- Settles O2: the round trip of the word composed with the round trip of the ports. -/
theorem encodedOperationDecodes : Obligations.EncodedOperationDecodes := by
  intro i
  refine ⟨decodeWord_encodeWord i, ?_, fun h => ?_⟩
  · rw [encodeWord, PortSample.ofWord_toWord, encode_reset]
  · rw [decodeWord_encodeWord, Instr.onPort_of_wellFormed h]

/-- Settles O3: the ports of the word present a command, whose code is their `cmd`, and make up the word. -/
theorem everyPortWordIsACommand : Obligations.EveryPortWordIsACommand := by
  intro w
  refine ⟨decode_wellFormed _, ?_, PortSample.toWord_ofWord w⟩
  rw [decodeWord, decode_code, PortSample.ofWord_cmd_toNat]

/-- Settles O1: the four words, evaluated. -/
theorem portCodePointsDecode : Obligations.PortCodePointsDecode := by
  unfold Obligations.PortCodePointsDecode
  decide

/-- Settles O4: the decoder reads an operand port in the branch of START only. -/
theorem operandInputsIgnoredUnlessStart : Obligations.OperandInputsIgnoredUnlessStart := by
  intro p q hcmd hstart
  simp only [decode, ← hcmd, if_neg hstart]

end Sys2Proof

namespace Sys2Proof.Machine

/-- Settles O8: `exec` answers `nextOf`, and a step is the reset input or an operation. -/
theorem nothingTraps : Obligations.NothingTraps := by
  have hexec (i : Instr) (s : State) : ∃ t, exec i s = .next t := ⟨nextOf i s, exec_eq i s⟩
  refine ⟨hexec, fun s => ?_⟩
  simp only [step]
  split
  · exact ⟨_, rfl⟩
  · exact hexec _ _

end Sys2Proof.Machine
end

section
/-! The sequencer's invariant along a transmission (R19, R90, R107, R108): START establishes it, a work step and a TAKE
keep it. -/

namespace Sys2Proof.Machine

@[simp] theorem workOn_inflight (c : Parameters) (s : State) : (workOn c s).inflight = s.inflight := by
  rw [workOn]
  cases selectAction s <;> rfl

@[simp] theorem workOn_trace (c : Parameters) (s : State) : (workOn c s).trace = s.trace := by
  rw [workOn]
  cases selectAction s <;> rfl

/-- While the bit cursor is short of the length its increment does not wrap (R31). -/
theorem actW6_mbit_toNat {s : State} (h : RangeInv s) (hleft : s.mbit ≠ s.bitlen) :
    s.mbit.toNat < s.bitlen.toNat ∧ (actW6 s).mbit.toNat = s.mbit.toNat + 1 := by
  have hlt : s.mbit.toNat < s.bitlen.toNat :=
    Nat.lt_of_le_of_ne h.mbit_le fun he => hleft (BitVec.eq_of_toNat_eq he)
  have hlen := h.bitlen_le
  exact ⟨hlt, BitVec.toNat_add_of_lt (by simp; omega)⟩

/-- At a fetch or between two, the byte W6 takes its bit from is the current message byte without the bits already
consumed (R19, R96). -/
theorem currentMessageByte_eq_shiftLeft {s : State} (hrange : RangeInv s) (hflow : FlowInv s) :
    currentMessageByte s = s.msg.read (s.mbit.toNat / 8) <<< (s.mbit.toNat % 8) := by
  have hbyte := hrange.mbyte_eq
  rw [currentMessageByte]
  split <;> rename_i haligned <;> rw [byteAligned_iff] at haligned
  · rw [haligned, BitVec.shiftLeft_zero, show s.mbyte.toNat = s.mbit.toNat / 8 by omega]
  · exact hflow.shift_register haligned

/-- A block that still has symbols or pattern bits to send is not idle (R108). -/
theorem olen_ne_zero_of_flow {s : State} (h : FlowInv s) (hbusy : s.alen ≠ 0 ∨ s.zlen ≠ 0) : s.olen ≠ 0 := by
  intro holen
  obtain ⟨-, halen, hzlen, -⟩ := h.idle holen
  exact hbusy.elim (absurd halen) (absurd hzlen)

theorem flowInv_startOn (p : Byte) (m : Message) (n : Byte) (s : State) :
    FlowInv (startOn Config.device.params p m n s) := by
  obtain ⟨hzero, hone⟩ := descriptorFor_lengths_ne_zero p
  rw [startOn_eq]
  exact {
    idle := fun h => absurd h hone
    idle_of_not_inflight := nofun
    sentinel_ready := fun _ h => absurd h hone
    preamble_first := fun _ => ⟨hzero, rfl, .inr rfl⟩
    shift_register := fun h => absurd rfl h }

/-- The completing TAKE leaves the idle block, any other one a block with symbols left to send. -/
theorem flowInv_takeByte {s : State} (h : FlowInv s) : FlowInv (takeByte s) := by
  rw [takeByte_eq]
  exact { h with
    idle_of_not_inflight := fun hend => by
      cases hinflight : s.inflight with
      | false => exact h.idle_of_not_inflight hinflight
      | true => simpa [hinflight, doneFlag_iff] using hend
    sentinel_ready := fun hgoing hidle => by simp [doneFlag, show s.olen = 0 from hidle] at hgoing
    preamble_first := fun hprem =>
      have ⟨hzlen, halen, _⟩ := h.preamble_first hprem
      ⟨hzlen, halen, .inr rfl⟩ }

theorem flowInv_actW2 {s : State} (c : Parameters) (h : FlowInv s) (hprem : s.prem ≠ 0) : FlowInv (actW2 c s) :=
  have ⟨hzlen, halen, _⟩ := h.preamble_first hprem
  { h with
    idle := fun holen => absurd (h.idle holen).1 hprem
    sentinel_ready := fun _ _ => rfl
    preamble_first := fun _ => ⟨hzlen, halen, .inl rfl⟩ }

theorem flowInv_actW3 {s : State} (h : FlowInv s) (hprem : s.prem = 0) (halen : s.alen ≠ 0) : FlowInv (actW3 s) :=
  have holen : s.olen ≠ 0 := olen_ne_zero_of_flow h (.inl halen)
  { h with
    idle := fun h0 => absurd h0 holen
    sentinel_ready := fun _ h0 => absurd h0 holen
    preamble_first := fun hne => absurd hprem hne }

theorem flowInv_actW4 {s : State} (h : FlowInv s) (hprem : s.prem = 0) (halen : s.alen = 0) (hzlen : s.zlen = 0) :
    FlowInv (actW4 s) :=
  { h with
    idle := fun _ => ⟨hprem, halen, hzlen, rfl⟩
    idle_of_not_inflight := fun _ => rfl
    sentinel_ready := fun _ _ => rfl
    preamble_first := fun hne => absurd hprem hne }

theorem flowInv_actW5 {s : State} (h : FlowInv s) (hprem : s.prem = 0) (hzlen : s.zlen ≠ 0) : FlowInv (actW5 s) :=
  have holen : s.olen ≠ 0 := olen_ne_zero_of_flow h (.inr hzlen)
  { h with
    idle := fun h0 => absurd h0 holen
    sentinel_ready := fun _ h0 => absurd h0 holen
    preamble_first := fun hne => absurd hprem hne }

/-- W6 shifts the consumed bit out, so the shift register again holds what is left of the message byte. -/
theorem flowInv_actW6 {s : State} (hrange : RangeInv s) (h : FlowInv s) (hprem : s.prem = 0) (hzlen : s.zlen ≠ 0)
    (hleft : s.mbit ≠ s.bitlen) : FlowInv (actW6 s) := by
  have holen : s.olen ≠ 0 := olen_ne_zero_of_flow h (.inr hzlen)
  obtain ⟨-, hmbit⟩ := actW6_mbit_toNat hrange hleft
  exact { h with
    idle := fun h0 => absurd h0 holen
    sentinel_ready := fun _ h0 => absurd h0 holen
    preamble_first := fun hne => absurd hprem hne
    shift_register := fun hmid => by
      rw [hmbit] at hmid ⊢
      rw [actW6_msr, actW6_msg, shiftIn_false, currentMessageByte_eq_shiftLeft hrange h, ← BitVec.shiftLeft_add,
        show (s.mbit.toNat + 1) / 8 = s.mbit.toNat / 8 by omega,
        show (s.mbit.toNat + 1) % 8 = s.mbit.toNat % 8 + 1 by omega] }

theorem flowInv_workOn {s : State} (c : Parameters) (hrange : RangeInv s) (h : FlowInv s) : FlowInv (workOn c s) := by
  rcases workOn_cases c s with ⟨-, e⟩ | ⟨-, hprem, e⟩ | ⟨-, hprem, halen, e⟩ | ⟨-, hprem, halen, hzlen, e⟩ |
    ⟨-, hprem, -, hzlen, -, e⟩ | ⟨-, hprem, -, hzlen, hleft, e⟩ <;> rw [e]
  · exact h
  · exact flowInv_actW2 c h hprem
  · exact flowInv_actW3 h hprem halen
  · exact flowInv_actW4 h hprem halen hzlen
  · exact flowInv_actW5 h hprem hzlen
  · exact flowInv_actW6 hrange h hprem hzlen hleft

/-- A transmission is in progress: both invariants hold, and `INFLIGHT` is set. -/
structure InTransmission (s : State) : Prop where
  range : RangeInv s
  flow : FlowInv s
  inflight : s.inflight = true

theorem inTransmission_startOn (p : Byte) (m : Message) (n : Byte) (s : State) :
    InTransmission (startOn Config.device.params p m n s) :=
  ⟨rangeInv_startOn p m n s, flowInv_startOn p m n s, by rw [startOn_eq]; rfl⟩

theorem InTransmission.workOn {s : State} (h : InTransmission s) (c : Parameters) : InTransmission (workOn c s) :=
  ⟨rangeInv_workOn c h.range, flowInv_workOn c h.range h.flow, by rw [workOn_inflight, h.inflight]⟩

/-- A TAKE that is not the completing one leaves the transmission in progress (R107). -/
theorem InTransmission.takeByte {s : State} (h : InTransmission s) (hdone : doneFlag s = false) :
    InTransmission (takeByte s) :=
  ⟨rangeInv_takeByte h.range, flowInv_takeByte h.flow, by simp [takeByte_eq, h.inflight, hdone]⟩

/-- Until the sentinel byte is built the transmission has symbols (R107). -/
theorem InTransmission.olen_ne_zero {s : State} (h : InTransmission s) (hneeded : s.needed ≠ 0) : s.olen ≠ 0 :=
  fun holen => hneeded (h.flow.sentinel_ready h.inflight holen)

end Sys2Proof.Machine
end

section
/-! What the block still has to deliver (R110, R111): START pends the stream of the request, a work step leaves what is
pending as it is, a TAKE of a complete byte delivers the first of it. -/

namespace Sys2Proof.Machine

theorem pendingTakes_of_ready (c : Parameters) {s : State} (h : s.needed = 0) :
    pendingTakes c s = (s.out, doneFlag s) :: pendingAfterByte c { s with needed := 8 } :=
  if_pos ((readyFlag_iff s).mpr h)

theorem pendingTakes_of_not_ready (c : Parameters) {s : State} (h : s.needed ≠ 0) :
    pendingTakes c s = pendingAfterByte c s :=
  if_neg (mt (readyFlag_iff s).mp h)

/-- Until the sentinel byte is built the rest of the preamble is pending, then the bits not yet in a byte, then the
sentinel byte. -/
theorem pendingAfterByte_of_olen (c : Parameters) {s : State} (h : s.olen ≠ 0) :
    pendingAfterByte c s =
      ((c.pool.drop s.pcur.toNat).take s.prem.toNat ++ packBytes (unsentBits s)).map (fun b => (b, false)) ++
        [(0x00, true)] :=
  if_neg (mt (doneFlag_iff s).mp h)

/-- With a byte complete before the sentinel byte, that byte is pending in front of the rest. -/
theorem pendingTakes_of_ready_olen (c : Parameters) {s : State} (h : s.needed = 0) (holen : s.olen ≠ 0) :
    pendingTakes c s =
      (s.out :: ((c.pool.drop s.pcur.toNat).take s.prem.toNat ++ packBytes (unsentBits { s with needed := 8 }))).map
        (fun b => (b, false)) ++ [(0x00, true)] := by
  have hdone : doneFlag s = false := beq_false_of_ne holen
  rw [pendingTakes_of_ready c h, pendingAfterByte_of_olen c (s := { s with needed := 8 }) holen, hdone]
  rfl

theorem pendingAfterByte_done (c : Parameters) {s : State} (h : doneFlag s = true) : pendingAfterByte c s = [] :=
  if_pos h

theorem unsentBits_of_flush {s : State} (h : s.zlen = 0) :
    unsentBits s = builtBits s ++ patternBits s.alen.toNat s.apat :=
  if_pos ((doneSentinel_iff s).mpr h)

theorem unsentBits_of_payload {s : State} (h : s.zlen ≠ 0) :
    unsentBits s = paddedBits (builtBits s ++ patternBits s.alen.toNat s.apat ++ unsentSymbols s) :=
  if_neg (mt (doneSentinel_iff s).mp h)

/-- A complete byte of eight built bits comes first of the unsent bits, the byte under construction begins anew after
it. -/
theorem packBytes_unsentBits_of_ready {s : State} (h : s.needed = 0) :
    packBytes (unsentBits s) = s.out :: packBytes (unsentBits { s with needed := 8 }) := by
  have hlength : (builtBits s).length = 8 := by rw [builtBits_length, h]; rfl
  have hnone : builtBits { s with needed := 8 } = [] := builtBits_none rfl
  by_cases hzlen : s.zlen = 0
  · rw [unsentBits_of_flush hzlen, unsentBits_of_flush (s := { s with needed := 8 }) hzlen, hnone,
      packBytes_byte _ _ hlength, byteOfBits_builtBits h, List.nil_append]
  · rw [unsentBits_of_payload hzlen, unsentBits_of_payload (s := { s with needed := 8 }) hzlen, hnone,
      List.append_assoc, paddedBits_byte _ _ hlength, packBytes_byte _ _ hlength, byteOfBits_builtBits h,
      List.nil_append]
    rfl

/-- After the preamble a byte just completed from unsent bits is pending in its place among them. -/
theorem pendingTakes_eq_pendingAfterByte (c : Parameters) {s : State} (hprem : s.prem = 0) (holen : s.olen ≠ 0) :
    pendingTakes c s = pendingAfterByte c s := by
  by_cases hneeded : s.needed = 0
  · rw [pendingTakes_of_ready_olen c hneeded holen, pendingAfterByte_of_olen c holen,
      packBytes_unsentBits_of_ready hneeded, hprem]
    rfl
  · exact pendingTakes_of_not_ready c hneeded

/-- After the preamble what is pending depends on the unsent bits alone. -/
theorem pendingTakes_congr (c : Parameters) {s t : State} (hs : s.prem = 0) (ht : t.prem = 0) (holen : s.olen ≠ 0)
    (holen' : t.olen ≠ 0) (hbits : unsentBits t = unsentBits s) : pendingTakes c t = pendingTakes c s := by
  rw [pendingTakes_eq_pendingAfterByte c hs holen, pendingTakes_eq_pendingAfterByte c ht holen',
    pendingAfterByte_of_olen c holen, pendingAfterByte_of_olen c holen', hbits, hs, ht]
  rfl

/-! ### Work steps -/

/-- W3 moves a bit from the active pattern into the byte under construction (R93). -/
theorem unsentBits_actW3 {s : State} (hneeded : s.needed ≠ 0) (hle : s.needed.toNat ≤ 8) (halen : s.alen ≠ 0) :
    unsentBits (actW3 s) = unsentBits s := by
  have hbegun : builtBits (actW3 s) ++ patternBits (actW3 s).alen.toNat (actW3 s).apat =
      builtBits s ++ patternBits s.alen.toNat s.apat := by
    have hcount : s.alen.toNat = (actW3 s).alen.toNat + 1 := by
      have hpos := toNat_ne_zero halen
      have hdown : (actW3 s).alen.toNat = s.alen.toNat - 1 := toNat_sub_one halen
      omega
    rw [hcount, patternBits_succ, builtBits_actW3 s hneeded hle, List.append_assoc]
    rfl
  unfold unsentBits
  rw [hbegun]
  rfl

/-- Once all symbols are out, entering the flush appends the zeros that fill the bytes (R95). -/
theorem unsentBits_actW5 {s : State} (hneeded : s.needed ≠ 0) (hle : s.needed.toNat ≤ 8) (halen : s.alen = 0)
    (hzlen : s.zlen ≠ 0) (hend : s.mbit = s.bitlen) : unsentBits (actW5 s) = unsentBits s := by
  have hsymbols : unsentSymbols s = [] := by simp [unsentSymbols, hend]
  have hpattern : patternBits s.alen.toNat s.apat = [] := by simp [halen, patternBits]
  have hflush : flushLength (builtBits s).length = s.needed.toNat + 8 := by
    have hpos := toNat_ne_zero hneeded
    rw [builtBits_length, flushLength]
    omega
  rw [unsentBits_of_payload hzlen, hsymbols, hpattern, List.append_nil, List.append_nil, paddedBits, hflush,
    unsentBits_of_flush (actW5_zlen s), actW5_alen, actW5_apat, flushCount_toNat, patternBits_blank]
  rfl

/-- The bit W6 takes is message bit number `MBIT` (R96). -/
theorem topBit_currentMessageByte {s : State} (hrange : RangeInv s) (hflow : FlowInv s) :
    topBit (currentMessageByte s) = bufferBit s.msg s.mbit.toNat := by
  have hlt : s.mbit.toNat % 8 ≤ 7 := by omega
  rw [currentMessageByte_eq_shiftLeft hrange hflow, topBit, bufferBit, BitVec.getLsbD_shiftLeft]
  simp [hlt]

/-- The active pattern after W6 is the symbol of the bit it took. -/
theorem patternBits_actW6 (s : State) :
    patternBits (actW6 s).alen.toNat (actW6 s).apat =
      symbolBits s.zlen s.olen s.zpat s.opat (topBit (currentMessageByte s)) := by
  rw [symbolBits, actW6_alen, actW6_apat]
  split <;> rw [symbolCount_toNat]

/-- W6 takes the first of the unsent symbols. -/
theorem unsentSymbols_actW6 {s : State} (hrange : RangeInv s) (hleft : s.mbit ≠ s.bitlen) :
    unsentSymbols s =
      symbolBits s.zlen s.olen s.zpat s.opat (bufferBit s.msg s.mbit.toNat) ++ unsentSymbols (actW6 s) := by
  obtain ⟨hlt, hmbit⟩ := actW6_mbit_toNat hrange hleft
  rw [unsentSymbols, show s.bitlen.toNat - s.mbit.toNat = (s.bitlen.toNat - (s.mbit.toNat + 1)) + 1 by omega,
    List.range_succ_eq_map, List.flatMap_cons, List.flatMap_map, unsentSymbols, hmbit]
  simp [Nat.add_assoc, Nat.add_comm 1]

/-- W6 replaces an unsent message bit by its symbol. -/
theorem unsentBits_actW6 {s : State} (hrange : RangeInv s) (hflow : FlowInv s) (halen : s.alen = 0) (hzlen : s.zlen ≠ 0)
    (hleft : s.mbit ≠ s.bitlen) : unsentBits (actW6 s) = unsentBits s := by
  have hpattern : patternBits s.alen.toNat s.apat = [] := by simp [halen, patternBits]
  have hbuilt : builtBits (actW6 s) = builtBits s := rfl
  rw [unsentBits_of_payload hzlen, unsentBits_of_payload (s := actW6 s) hzlen, hpattern,
    unsentSymbols_actW6 hrange hleft, patternBits_actW6, topBit_currentMessageByte hrange hflow, hbuilt,
    List.append_nil, List.append_assoc]

/-- What is left of the preamble is its first byte, read from the pool, and what W2 leaves of it (R92). -/
theorem preamble_actW2 {s : State} (hrange : RangeInv s) (hprem : s.prem ≠ 0) :
    (Config.device.params.pool.drop s.pcur.toNat).take s.prem.toNat =
      poolRead Config.device.params s.pcur ::
        (Config.device.params.pool.drop (s.pcur + 1).toNat).take (s.prem - 1).toNat := by
  have hwindow := hrange.window
  have hpos := toNat_ne_zero hprem
  have hcount : s.prem.toNat = (s.prem - 1).toNat + 1 := by rw [toNat_sub_one hprem]; omega
  have hcursor : (s.pcur + 1).toNat = s.pcur.toNat + 1 := BitVec.toNat_add_of_lt (by simp; omega)
  obtain ⟨hlt, hfirst⟩ := List.getElem?_eq_some_iff.mp (pool_lookup device_wf (i := s.pcur) (by omega))
  rw [List.drop_eq_getElem_cons hlt, hfirst, hcount, List.take_succ_cons, hcursor]

/-- W2 delivers the first byte of what is left of the preamble (R92). -/
theorem pendingTakes_actW2 {s : State} (h : InTransmission s) (hneeded : s.needed ≠ 0) (hprem : s.prem ≠ 0) :
    pendingTakes Config.device.params (actW2 Config.device.params s) = pendingTakes Config.device.params s := by
  obtain ⟨-, -, hfresh⟩ := h.flow.preamble_first hprem
  have h8 : s.needed = 8 := hfresh.resolve_left hneeded
  have holen := h.olen_ne_zero hneeded
  have hbits : unsentBits { actW2 Config.device.params s with needed := 8 } = unsentBits s := by
    rw [unsentBits, unsentBits, builtBits_none h8, builtBits_none rfl]
    rfl
  rw [pendingTakes_of_ready_olen _ rfl (show (actW2 _ s).olen ≠ 0 from holen), hbits,
    pendingTakes_of_not_ready _ hneeded, pendingAfterByte_of_olen _ holen, preamble_actW2 h.range hprem]
  rfl

/-- W4 delivers the sentinel byte: fewer than eight bits are left, which make no byte (R94). -/
theorem pendingTakes_actW4 (c : Parameters) {s : State} (hneeded : s.needed ≠ 0) (hprem : s.prem = 0)
    (halen : s.alen = 0) (hzlen : s.zlen = 0) (holen : s.olen ≠ 0) :
    pendingTakes c (actW4 s) = pendingTakes c s := by
  have hpos := toNat_ne_zero hneeded
  have hshort : packBytes (unsentBits s) = [] := by
    refine packBytes_short _ ?_
    rw [unsentBits_of_flush hzlen, List.length_append, builtBits_length, patternBits_length, halen]
    simp
    omega
  rw [pendingTakes_of_not_ready c hneeded, pendingAfterByte_of_olen c holen, hshort, hprem,
    pendingTakes_of_ready c rfl, pendingAfterByte_done c rfl]
  rfl

/-- A work step of a transmission leaves what is pending as it is. -/
theorem pendingTakes_workOn {s : State} (h : InTransmission s) :
    pendingTakes Config.device.params (workOn Config.device.params s) = pendingTakes Config.device.params s := by
  have hle := h.range.needed_le
  rcases workOn_cases Config.device.params s with ⟨-, e⟩ | ⟨hneeded, hprem, e⟩ | ⟨hneeded, hprem, halen, e⟩ |
    ⟨hneeded, hprem, halen, hzlen, e⟩ | ⟨hneeded, hprem, halen, hzlen, hend, e⟩ |
    ⟨hneeded, hprem, halen, hzlen, hleft, e⟩ <;> rw [e]
  · exact pendingTakes_actW2 h hneeded hprem
  all_goals have holen := h.olen_ne_zero hneeded
  · exact pendingTakes_congr _ hprem hprem holen holen (unsentBits_actW3 hneeded hle halen)
  · exact pendingTakes_actW4 _ hneeded hprem halen hzlen holen
  · exact pendingTakes_congr _ hprem hprem holen holen (unsentBits_actW5 hneeded hle halen hzlen hend)
  · exact pendingTakes_congr _ hprem hprem holen holen (unsentBits_actW6 h.range h.flow halen hzlen hleft)

/-! ### TAKE and START -/

/-- What is pending after a TAKE is what was pending after the byte in `OUT`. -/
theorem pendingTakes_takeByte (c : Parameters) (s : State) :
    pendingTakes c (takeByte s) = pendingAfterByte c { s with needed := 8 } := by
  rw [takeByte_eq, pendingTakes_of_not_ready c (by decide : (8 : BitVec 4) ≠ 0)]
  rfl

/-- A TAKE of a complete byte delivers the first of what is pending (R103). -/
theorem pendingTakes_of_take (c : Parameters) {s : State} (h : s.needed = 0) :
    pendingTakes c s = (s.out, doneFlag s) :: pendingTakes c (takeByte s) := by
  rw [pendingTakes_of_ready c h, pendingTakes_takeByte]

/-- START makes the symbols of the request the unsent ones (R80, R82). -/
theorem unsentSymbols_startOn (c : Parameters) (p : Byte) (m : Message) (n : Byte) (s : State) :
    unsentSymbols (startOn c p m n s) = payloadBits (descriptorFor c p) m (clampLength n).toNat := by
  rw [startOn_eq]
  simp only [unsentSymbols, payloadBits, loadTransmission]
  refine List.flatMap_congr fun k hk => ?_
  have hk' : k < 128 := by
    rw [List.mem_range, clampLength_toNat] at hk
    simp at hk
    omega
  simp [bufferBit_ofMessage m hk']

/-- After START the stream of the request is pending (R111). -/
theorem pendingTakes_startOn (p : Byte) (m : Message) (n : Byte) (s : State) :
    pendingTakes Config.device.params (startOn Config.device.params p m n s) =
      streamTakes Config.device.params p m n := by
  obtain ⟨hzlen, holen⟩ := descriptorFor_lengths_ne_zero p
  have hneeded : (startOn Config.device.params p m n s).needed = 8 := by rw [startOn_eq]; rfl
  have hbits : unsentBits (startOn Config.device.params p m n s) =
      paddedBits (payloadBits (descriptorFor Config.device.params p) m (clampLength n).toNat) := by
    rw [unsentBits_of_payload (by rw [startOn_eq]; exact hzlen), builtBits_none hneeded, unsentSymbols_startOn,
      startOn_eq]
    rfl
  rw [pendingTakes_of_not_ready _ (by rw [hneeded]; decide),
    pendingAfterByte_of_olen _ (by rw [startOn_eq]; exact holen), hbits, startOn_eq]
  rfl

end Sys2Proof.Machine
end

section
/-! Readiness (R117): from `NEEDED = 8` at most `8 + ceil(8 / L)` work steps complete the byte, `L` a lower bound of the
symbol lengths. -/

namespace Sys2Proof.Machine

/-- With the byte complete a work step does nothing (R91). -/
theorem workOn_of_ready (c : Parameters) {s : State} (h : s.needed = 0) : workOn c s = s := by
  rw [workOn, selectAction_w1.mpr h]
  rfl

/-- Until the flush is entered neither symbol is shorter than `L`. -/
def SymbolsAtLeast (L : Nat) (s : State) : Prop := s.zlen ≠ 0 → L ≤ s.zlen.toNat ∧ L ≤ s.olen.toNat

/-- A bound of the work steps that complete the byte: one W3 for each bit it needs, and one W5 or W6 for each `L` of the
bits that the active pattern does not hold. -/
def worksToReady (L : Nat) (s : State) : Nat := s.needed.toNat + (s.needed.toNat - s.alen.toNat + L - 1) / L

theorem worksToReady_of_ready {L : Nat} (hL : 1 ≤ L) {s : State} (h : s.needed = 0) : worksToReady L s = 0 := by
  have hnone : (0 - s.alen.toNat + L - 1) / L = 0 := Nat.div_eq_of_lt (by omega)
  rw [worksToReady, h, show (0 : BitVec 4).toNat = 0 from rfl, hnone]

theorem worksToReady_pos {L : Nat} {s : State} (h : s.needed ≠ 0) : 0 < worksToReady L s :=
  Nat.add_pos_left (Nat.pos_of_ne_zero (toNat_ne_zero h)) _

/-- A pattern of `a` bits, `L` of them or all of the `n` needed, saves one load. -/
theorem loads_lt {L n a : Nat} (hL : 1 ≤ L) (hn : n ≠ 0) (ha : min n L ≤ a) :
    (n - a + L - 1) / L < (n + L - 1) / L := by
  by_cases hall : n ≤ a
  · rw [Nat.div_eq_of_lt (by omega : n - a + L - 1 < L)]
    exact Nat.div_pos (by omega) hL
  · rw [Nat.lt_iff_add_one_le, ← Nat.add_div_right _ hL]
    exact Nat.div_le_div_right (by omega)

theorem symbolsAtLeast_workOn {L : Nat} {s : State} (c : Parameters) (h : SymbolsAtLeast L s) :
    SymbolsAtLeast L (workOn c s) := by
  rcases workOn_cases c s with ⟨-, e⟩ | ⟨-, -, e⟩ | ⟨-, -, -, e⟩ | ⟨-, -, -, hzlen, e⟩ | ⟨-, -, -, -, -, e⟩ |
    ⟨-, -, -, -, -, e⟩ <;> rw [e]
  · exact h
  · exact h
  · exact h
  · exact fun hne => absurd hzlen hne
  · exact fun hne => absurd rfl hne
  · exact h

/-- Every work step on an incomplete byte lowers the bound. -/
theorem worksToReady_workOn {L : Nat} {s : State} (c : Parameters) (hL : 1 ≤ L) (h : SymbolsAtLeast L s)
    (hneeded : s.needed ≠ 0) : worksToReady L (workOn c s) < worksToReady L s := by
  have hpos := toNat_ne_zero hneeded
  have hload {t : State} (ht : t.needed = s.needed) (halen : s.alen = 0) (hle : min s.needed.toNat L ≤ t.alen.toNat) :
      worksToReady L t < worksToReady L s := by
    rw [worksToReady, worksToReady, ht, halen]
    exact Nat.add_lt_add_left (loads_lt hL hpos hle) _
  rcases workOn_cases c s with ⟨h0, -⟩ | ⟨-, -, e⟩ | ⟨-, -, halen, e⟩ | ⟨-, -, -, -, e⟩ | ⟨-, -, halen, -, -, e⟩ |
    ⟨-, -, halen, hzlen, -, e⟩
  · exact absurd h0 hneeded
  · rw [e, worksToReady_of_ready hL (actW2_needed c s)]
    exact worksToReady_pos hneeded
  · have hpattern := toNat_ne_zero halen
    rw [e, worksToReady, worksToReady, actW3_needed, actW3_alen, toNat_sub_one hneeded, toNat_sub_one halen,
      show s.needed.toNat - 1 - (s.alen.toNat - 1) = s.needed.toNat - s.alen.toNat by omega]
    omega
  · rw [e, worksToReady_of_ready hL (actW4_needed s)]
    exact worksToReady_pos hneeded
  · rw [e]
    refine hload rfl halen ?_
    rw [actW5_alen, flushCount_toNat]
    omega
  · rw [e]
    refine hload rfl halen ?_
    obtain ⟨hzero, hone⟩ := h hzlen
    rw [actW6_alen]
    split <;> rw [symbolCount_toNat] <;> omega

/-- Work steps within the bound make the byte ready. -/
theorem needed_iterate_workOn (c : Parameters) {L : Nat} (hL : 1 ≤ L) {k : Nat} {s : State} (h : SymbolsAtLeast L s)
    (hk : worksToReady L s ≤ k) : ((workOn c)^[k] s).needed = 0 := by
  induction k generalizing s with
  | zero =>
    by_contra hneeded
    exact absurd (worksToReady_pos hneeded) hk.not_gt
  | succ k ih =>
    rw [Function.iterate_succ_apply]
    by_cases hneeded : s.needed = 0
    · rw [workOn_of_ready c hneeded]
      exact ih h ((worksToReady_of_ready hL hneeded).trans_le k.zero_le)
    · exact ih (symbolsAtLeast_workOn c h) (Nat.le_of_lt_succ ((worksToReady_workOn c hL h hneeded).trans_le hk))

theorem worksToReady_of_fresh {L : Nat} {s : State} (h : s.needed = 8) : worksToReady L s ≤ 8 + (8 + L - 1) / L := by
  rw [worksToReady, h, show (8 : BitVec 4).toNat = 8 from rfl]
  exact Nat.add_le_add_left (Nat.div_le_div_right (by omega)) _

end Sys2Proof.Machine
end

section
/-! The pseudo-operations of R71 on a transmission in progress, and the length of its stream (R113). -/

namespace Sys2Proof.Machine

/-- "repeat `WORK` while `ready == 0`" is that many work steps, those past readiness being no-ops (R71, R91). -/
theorem pumpWorks_eq (k : Nat) (s : State) : pumpWorks k s = .next ((workOn Config.device.params)^[k] s) := by
  induction k generalizing s with
  | zero => rfl
  | succ k ih =>
    rw [pumpWorks]
    split <;> rename_i hready
    · rw [Function.iterate_fixed (workOn_of_ready _ ((readyFlag_iff s).mp hready))]
    · exact ih (workOn Config.device.params s)

/-- `u` is `s` after some work steps of its transmission: nothing has been taken or recorded, the same is pending. -/
structure WorkedFrom (s u : State) : Prop where
  inTransmission : InTransmission u
  pending_eq : pendingTakes Config.device.params u = pendingTakes Config.device.params s
  trace_eq : u.trace = s.trace
  fault_eq : u.fault = s.fault

theorem WorkedFrom.workOn {s u : State} (h : WorkedFrom s u) : WorkedFrom s (workOn Config.device.params u) where
  inTransmission := h.inTransmission.workOn _
  pending_eq := (pendingTakes_workOn h.inTransmission).trans h.pending_eq
  trace_eq := (workOn_trace _ u).trans h.trace_eq
  fault_eq := (workOn_fault _ u).trans h.fault_eq

/-- A `PUMP` of a transmission after a START or a TAKE takes a byte that its work steps have completed. -/
theorem exists_pump {s : State} (h : InTransmission s) (hneeded : s.needed = 8) :
    ∃ u, pump s = .next (takeByte u) ∧ u.needed = 0 ∧ WorkedFrom s u := by
  have hsymbols : SymbolsAtLeast 1 s := fun hzlen =>
    ⟨Nat.one_le_iff_ne_zero.mpr (toNat_ne_zero hzlen),
      Nat.one_le_iff_ne_zero.mpr (toNat_ne_zero (olen_ne_zero_of_flow h.flow (.inr hzlen)))⟩
  refine ⟨(workOn Config.device.params)^[16] s, ?_, ?_, ?_⟩
  · rw [pump, pumpWorks_eq]
    rfl
  · exact needed_iterate_workOn _ (Nat.le_refl 1) hsymbols (worksToReady_of_fresh hneeded)
  · exact Function.Iterate.rec (WorkedFrom s) ⟨h, rfl, rfl, rfl⟩ (fun _ => WorkedFrom.workOn) 16

/-- The complete byte is the first of what was pending. -/
theorem WorkedFrom.pending_cons {s u : State} (h : WorkedFrom s u) (hneeded : u.needed = 0) :
    pendingTakes Config.device.params s = (u.out, doneFlag u) :: pendingTakes Config.device.params (takeByte u) := by
  rw [← h.pending_eq, pendingTakes_of_take _ hneeded]

/-! ### The run record -/

theorem bytesTaken_cons (e : Event) (trace : List Event) :
    bytesTaken (e :: trace) = bytesTaken trace ++ bytesTaken [e] := by
  cases e <;> simp [bytesTaken]

/-- A TAKE adds `OUT` and `done` to the bytes taken (R103). -/
theorem bytesTaken_takeByte (s : State) :
    bytesTaken (takeByte s).trace = bytesTaken s.trace ++ [(s.out, doneFlag s)] := by
  rw [takeByte_eq]
  dsimp only
  split
  · rw [bytesTaken_cons, bytesTaken_cons, List.append_assoc]
    rfl
  · exact bytesTaken_cons _ _

/-- Only the completing TAKE emits `Complete` (R107). -/
theorem completions_takeByte (s : State) :
    completions (takeByte s).trace = completions s.trace + if doneFlag s && s.inflight then 1 else 0 := by
  rw [takeByte_eq]
  dsimp only
  split <;> simp [completions]

/-- A TAKE of a complete byte keeps the contract (R123). -/
theorem takeByte_fault_of_ready {s : State} (h : s.needed = 0) : (takeByte s).fault = s.fault := by
  rw [takeByte_eq]
  exact if_pos h

/-! ### The whole transmission -/

/-- The run from `s` to `t` has taken all that was pending, ended with one `Complete` and recorded no fault. -/
structure DeliveredFrom (s t : State) : Prop where
  inflight : t.inflight = false
  fault_eq : t.fault = s.fault
  bytes_eq : bytesTaken t.trace = bytesTaken s.trace ++ pendingTakes Config.device.params s
  completions_eq : completions t.trace = completions s.trace + 1

/-- The TAKE of the sentinel byte delivers the last that was pending. -/
theorem WorkedFrom.delivered {s u : State} (h : WorkedFrom s u) (hneeded : u.needed = 0) (hdone : doneFlag u = true) :
    DeliveredFrom s (takeByte u) where
  inflight := by simp [takeByte_eq, hdone]
  fault_eq := (takeByte_fault_of_ready hneeded).trans h.fault_eq
  bytes_eq := by
    have hrest : pendingTakes Config.device.params (takeByte u) = [] :=
      (pendingTakes_takeByte _ u).trans (pendingAfterByte_done _ hdone)
    rw [bytesTaken_takeByte, h.trace_eq, h.pending_cons hneeded, hrest]
  completions_eq := by simp [completions_takeByte, h.trace_eq, hdone, h.inTransmission.inflight]

/-- The TAKE of any other byte leaves the rest pending. -/
theorem WorkedFrom.delivered_of_rest {s u t : State} (h : WorkedFrom s u) (hneeded : u.needed = 0)
    (hdone : doneFlag u = false) (hrest : DeliveredFrom (takeByte u) t) : DeliveredFrom s t where
  inflight := hrest.inflight
  fault_eq := hrest.fault_eq.trans ((takeByte_fault_of_ready hneeded).trans h.fault_eq)
  bytes_eq := by
    rw [hrest.bytes_eq, bytesTaken_takeByte, h.trace_eq, h.pending_cons hneeded, List.append_assoc,
      List.singleton_append]
  completions_eq := by simp [hrest.completions_eq, completions_takeByte, h.trace_eq, hdone]

/-- `PUMP*` delivers what is pending, given a `PUMP` for each of its bytes (R71). -/
theorem pumpAll_delivers {fuel : Nat} {s : State} (h : InTransmission s) (hneeded : s.needed = 8)
    (hfuel : (pendingTakes Config.device.params s).length ≤ fuel) :
    ∃ t, pumpAll fuel s = .next t ∧ DeliveredFrom s t := by
  induction fuel generalizing s with
  | zero =>
    obtain ⟨u, -, hready, hworked⟩ := exists_pump h hneeded
    rw [hworked.pending_cons hready] at hfuel
    exact absurd hfuel (Nat.not_succ_le_zero _)
  | succ fuel ih =>
    obtain ⟨u, hpump, hready, hworked⟩ := exists_pump h hneeded
    obtain ⟨-, -, hsame⟩ := flags_takeByte u
    rw [hworked.pending_cons hready] at hfuel
    rw [pumpAll, hpump, andThen, hsame]
    cases hdone : doneFlag u with
    | true => exact ⟨takeByte u, rfl, hworked.delivered hready hdone⟩
    | false =>
      have hasked : (takeByte u).needed = 8 := by rw [takeByte_eq]
      obtain ⟨t, hrun, hrest⟩ := ih (hworked.inTransmission.takeByte hdone) hasked (Nat.le_of_succ_le_succ hfuel)
      exact ⟨t, hrun, hworked.delivered_of_rest hready hdone hrest⟩

/-! ### The length of the stream -/

theorem preambleBytes_length (p : Byte) :
    (preambleBytes Config.device.params (descriptorFor Config.device.params p)).length =
      (descriptorFor Config.device.params p).preLen.toNat := by
  obtain ⟨-, hpool, -, hwindow, -⟩ := wf_clauses device_wf
  have hin := hwindow _ (descriptorFor_mem device_wf p)
  rw [preambleBytes, List.length_take, List.length_drop, hpool]
  omega

/-- A symbol has at most eight bits (R6). -/
theorem payloadBits_length_le (p : Byte) (m : Message) (n : Nat) :
    (payloadBits (descriptorFor Config.device.params p) m n).length ≤ 8 * n := by
  obtain ⟨-, -, hsymbols, -, -⟩ := wf_clauses device_wf
  obtain ⟨⟨-, hzero⟩, -, hone⟩ := hsymbols _ (descriptorFor_mem device_wf p)
  rw [payloadBits, List.length_flatMap]
  refine (List.sum_le_card_nsmul _ 8 ?_).trans (by simp [Nat.mul_comm])
  intro len hlen
  obtain ⟨k, -, rfl⟩ := List.mem_map.mp hlen
  rw [symbolBits_length]
  split <;> assumption

/-- The preamble, the payload and its flush, and the sentinel byte (R113). -/
theorem streamTakes_length (p : Byte) (m : Message) (n : Byte) :
    (streamTakes Config.device.params p m n).length =
      (descriptorFor Config.device.params p).preLen.toNat +
        (payloadBits (descriptorFor Config.device.params p) m (min n.toNat 128)).length / 8 + 3 := by
  rw [streamTakes, List.length_append, List.length_map, dataBytes, List.length_append, preambleBytes_length,
    packBytes_length, paddedBits, List.length_append, List.length_replicate, flush_fills, clampLength_toNat,
    List.length_singleton]
  omega

theorem streamTakes_length_le (p : Byte) (m : Message) (n : Byte) :
    (streamTakes Config.device.params p m n).length ≤ 162 := by
  have hpreamble := (descriptorFor Config.device.params p).preLen.isLt
  have hpayload := payloadBits_length_le p m (min n.toNat 128)
  rw [streamTakes_length]
  omega

/-- Settles O54: START pends the stream, at most 162 bytes, and `PUMP*` delivers all of it. -/
theorem sendDeliversWholeStream : Obligations.SendDeliversWholeStream := by
  intro p m n s hidle
  have hstream := pendingTakes_startOn p m n s
  have hasked : (startOn Config.device.params p m n s).needed = 8 := by rw [startOn_eq]; rfl
  have hfault : (startOn Config.device.params p m n s).fault = s.fault := by rw [startOn_eq, hidle]; rfl
  have htrace : (startOn Config.device.params p m n s).trace =
      .tick (descriptorFor Config.device.params p).tickPeriod :: s.trace := by rw [startOn_eq]
  obtain ⟨t, hrun, hend⟩ := pumpAll_delivers (inTransmission_startOn p m n s) hasked
    (hstream ▸ streamTakes_length_le p m n)
  refine ⟨t, hrun, hend.inflight, hend.fault_eq.trans hfault, ?_, ?_⟩
  · rw [hend.bytes_eq, hstream, htrace]
    rfl
  · rw [hend.completions_eq, htrace]
    rfl

end Sys2Proof.Machine
end

section
/-! The catalog lookup (R75, R76): the selector is folded by `CATALOG_SIZE`, so the lookup has that period, always finds
a descriptor, and gets four of the nine residues one selector value more often than the others. -/

namespace Sys2Proof.Machine

/-- Selectors with the same residue look up the same descriptor (R67, R75). -/
theorem descriptorFor_congr (c : Parameters) {i j : Byte} (h : selectorIndex i = selectorIndex j) :
    descriptorFor c i = descriptorFor c j := by
  rw [descriptorFor, descriptorFor, h]

/-- Every property that `WF` gives each descriptor holds of the result of a lookup (R7, R76). -/
theorem descriptorFor_wf {c : Parameters} (h : c.wf = true) (index : Byte) :
    (1 ≤ (descriptorFor c index).zeroLen.toNat ∧ (descriptorFor c index).zeroLen.toNat ≤ 8) ∧
      (1 ≤ (descriptorFor c index).oneLen.toNat ∧ (descriptorFor c index).oneLen.toNat ≤ 8) ∧
      (descriptorFor c index).preOff.toNat + (descriptorFor c index).preLen.toNat ≤ 31 ∧
      (descriptorFor c index).tickPeriod < 2 ^ c.tickW := by
  have hmem := descriptorFor_mem h index
  obtain ⟨-, -, hsymbols, hwindow, htick⟩ := wf_clauses h
  obtain ⟨hzero, hone⟩ := hsymbols _ hmem
  exact ⟨hzero, hone, hwindow _ hmem, htick _ hmem⟩

/-- The selector values that fold to `r` are the numbers below 256 congruent to `r`. -/
theorem countP_selectorIndex {r : Nat} (hr : r < 9) :
    ((List.range 256).countP fun v => selectorIndex (BitVec.ofNat 8 v) == r) = Nat.count (· ≡ r [MOD 9]) 256 := by
  refine List.countP_congr fun v hv => ?_
  have hbyte : v % 256 = v := Nat.mod_eq_of_lt (List.mem_range.mp hv)
  simp [selectorIndex, Nat.ModEq, Nat.mod_eq_of_lt hr, hbyte]

/-- 256 = 28 * 9 + 4: residues 0 to 3 are selected by 29 values, residues 4 to 8 by 28 (R76). -/
theorem selectorIndex_spread {r : Nat} (hr : r < 9) :
    ((List.range 256).countP fun v => selectorIndex (BitVec.ofNat 8 v) == r) = if r ≤ 3 then 29 else 28 := by
  rw [countP_selectorIndex hr, Nat.count_modEq_card 256 (by decide : 0 < 9), Nat.mod_eq_of_lt hr]
  split_ifs <;> omega

/-- Settles O19: 9 is the period of the fold, the fold is the identity below 9, and the result is a catalog entry. -/
theorem lookupLaws : Obligations.LookupLaws := by
  refine ⟨fun i j hij => descriptorFor_congr _ ?periodic, fun i hi => ?identity, ?wellFormed,
    fun r hr => selectorIndex_spread hr⟩
  case periodic => rw [selectorIndex, hij, Nat.add_mod_right, selectorIndex]
  case identity =>
    have hfound := catalog_lookup device_wf i
    rwa [Nat.mod_eq_of_lt hi] at hfound
  case wellFormed =>
    rintro i _ rfl
    exact ⟨descriptorFor_mem device_wf i, descriptorFor_wf device_wf i⟩

/-- Settles O18: the lookup is in range, and its row only records the descriptor found. -/
theorem lookupFoldsSelector : Obligations.LookupFoldsSelector := fun index s =>
  ⟨descriptorFor Config.device.params index, catalog_lookup device_wf index, exec_eq (.descriptorFor index) s⟩

end Sys2Proof.Machine
end

section
/-! START (R79 to R84): what it arms, what it leaves alone, and the part of its operands it depends on. -/

namespace Sys2Proof.Machine

/-- Message byte 0 is the most significant byte of the port word, byte 15 the least (R65). -/
theorem messageByte_toNat (m : Message) (i : Nat) :
    (messageByte m i).toNat = m.toNat / 2 ^ (8 * (15 - i)) % 256 := by
  rw [messageByte, BitVec.extractLsb'_toNat, Nat.shiftRight_eq_div_pow, show 120 - 8 * i = 8 * (15 - i) by omega]

/-- Lengths with the same clamped value are clamped to the same register content (R67, R80). -/
theorem clampLength_congr {n k : Byte} (h : min n.toNat 128 = min k.toNat 128) : clampLength n = clampLength k := by
  rw [← BitVec.toNat_inj, clampLength_toNat, clampLength_toNat, h]

/-- A descriptor without a preamble window arms a transmission that begins with its payload (R25, R81). -/
theorem phase_startOn (p : Byte) (m : Message) (n : Byte) (s : State) :
    phase (startOn Config.device.params p m n s) =
      if (descriptorFor Config.device.params p).preLen ≠ 0 then .preamble else .payload := by
  obtain ⟨-, hsentinel, -⟩ := flags_startOn p m n s
  have hprem : (startOn Config.device.params p m n s).prem = (descriptorFor Config.device.params p).preLen := by
    rw [startOn_eq]
    rfl
  simp [phase, hsentinel, hprem]

/-- After START the done sentinel is clear, so the block is not in its flush (R81, R115). -/
theorem flushAligned_startOn (p : Byte) (m : Message) (n : Byte) (s : State) :
    FlushAligned (startOn Config.device.params p m n s) := by
  obtain ⟨hzero, -⟩ := descriptorFor_lengths_ne_zero p
  rw [startOn_eq]
  exact fun h => absurd h hzero

/-- Settles O16: both invariants, established whatever the state before. -/
theorem startEstablishesFlow : Obligations.StartEstablishesFlow := by
  intro p m n s t hexec
  rw [exec_next hexec]
  exact ⟨flowInv_startOn p m n s, flushAligned_startOn p m n s⟩

/-- Settles O20: the lookup finds the descriptor (R75), `startOn_eq` gives each register, the message reads back byte by
byte (R82), and the flags and the phase follow from the descriptor's well-formedness. -/
theorem startArmsTransmission : Obligations.StartArmsTransmission := by
  intro p m n s
  have hbytes : ∀ i < 16, ((Memory.ofMessage m).read i).toNat = m.toNat / 2 ^ (8 * (15 - i)) % 256 := fun i hi => by
    rw [read_ofMessage, if_pos hi, messageByte_toNat]
  obtain ⟨hready, hsentinel, hdone⟩ := flags_startOn p m n s
  have hphase := phase_startOn p m n s
  refine ⟨descriptorFor Config.device.params p, _, catalog_lookup device_wf p, exec_eq _ s, ?_⟩
  rw [nextOf]
  simp only [hready, hsentinel, hdone, hphase]
  simpa [startOn_eq] using hbytes

/-- Settles O21: `startOn_eq` names every field START writes; past the 16 cells the old and the new buffer hold nothing. -/
theorem startFrame : Obligations.StartFrame := by
  intro p m n s t hexec
  have hmsg := exec_start_msg hexec
  have hnext := exec_next hexec
  rw [nextOf, startOn_eq] at hnext
  refine ⟨?apat, ?msr, ?out, ?input, ?resets, fun hwf a ha => ?memory⟩
  case memory => rw [hmsg, read_past_end (ofMessage_wf m) ha, read_past_end hwf ha]
  all_goals rw [hnext]; rfl

/-- Settles O23: the lookup folds the selector and the length register is clamped; the raw selector would be recorded
only by a START while busy (R85). -/
theorem startFoldsAndClamps : Obligations.StartFoldsAndClamps := by
  intro p q m n k s hidle hselector hlength
  have hdescriptor := descriptorFor_congr Config.device.params (i := p) (j := q) hselector
  simp [exec_eq, nextOf, startOn_eq, loadTransmission, hidle, hdescriptor, clampLength_congr hlength]

end Sys2Proof.Machine
end

section
/-! The fault mark along a run (R85, R127): what each operation adds to it, and that a script or a run of steps never
loses it. -/

namespace Sys2Proof.Machine

/-- The violation an operation commits in a state, if any (R123, R124). -/
def violation (i : Instr) (s : State) : Option Fault :=
  match i with
  | .start p _ _ => if s.inflight then some (.startWhileBusy p) else none
  | .take => if s.needed = 0 then none else some (.underrun s.needed)
  | .nop | .work | .workW1 | .workW2 | .workW3 | .workW4 | .workW5 | .workW6 | .ready | .done | .descriptorFor _ => none

/-- An operation adds its violation to the mark when none is set yet, and does nothing else to the mark (R122, R127). -/
theorem nextOf_fault (i : Instr) (s : State) : (nextOf i s).fault = s.fault.or (violation i s) := by
  cases i with
  | start p m n =>
    rw [nextOf, startOn_eq, violation]
    cases s.inflight <;> simp
  | take =>
    rw [nextOf, takeByte_eq, violation]
    dsimp only
    split
    · exact Option.or_none.symm
    · rfl
  | work | workW1 | workW2 | workW3 | workW4 | workW5 | workW6 => simp [nextOf, violation]
  | nop | ready | done | descriptorFor => simp [nextOf, violation]

/-- An operation that keeps the contract commits no violation (R123, R124). -/
theorem violation_of_contractOk {i : Instr} {s : State} (h : contractOk i s = true) : violation i s = none := by
  cases i with
  | start =>
    have hidle : s.inflight = false := by simpa [contractOk] using h
    simp [violation, hidle]
  | take =>
    obtain ⟨hready, -⟩ : readyFlag s = true ∧ s.inflight = true := by simpa [contractOk] using h
    exact if_pos ((readyFlag_iff s).mp hready)
  | nop | work | workW1 | workW2 | workW3 | workW4 | workW5 | workW6 | ready | done | descriptorFor => rfl

/-- No operation clears a mark (R127). -/
theorem nextOf_fault_ne_none {s : State} (i : Instr) (h : s.fault ≠ none) : (nextOf i s).fault ≠ none := by
  rw [nextOf_fault]
  exact fun hnone => h (Option.or_eq_none_iff.mp hnone).1

/-- A violation leaves a mark, its own or an earlier one (R127). -/
theorem nextOf_fault_of_violation {i : Instr} {s : State} (h : violation i s ≠ none) : (nextOf i s).fault ≠ none := by
  rw [nextOf_fault]
  exact fun hnone => h (Option.or_eq_none_iff.mp hnone).2

/-- No step clears a mark, with the reset input high or low (R127). -/
theorem step_fault_ne_none {s t : State} (h : s.fault ≠ none) (hstep : step s = .next t) : t.fault ≠ none := by
  obtain ⟨rest, rfl | ⟨i, -, rfl⟩⟩ := step_cases hstep
  · exact h
  · exact nextOf_fault_ne_none i h

/-- No number of steps clears a mark. -/
theorem core_run_fault_ne_none {k : Nat} {s t : State} (h : s.fault ≠ none) (hrun : Host.Core.run core k s = .next t) :
    t.fault ≠ none := by
  induction k generalizing s with
  | zero =>
    cases hrun
    exact h
  | succ k ih =>
    obtain ⟨u, hstep⟩ := nothingTraps.2 s
    rw [core_run_succ, hstep] at hrun
    exact ih (step_fault_ne_none h hstep) hrun

/-- No script clears a mark. -/
theorem runScript_fault_ne_none {is : List Instr} {s t : State} (h : s.fault ≠ none) (hrun : runScript is s = .next t) :
    t.fault ≠ none := by
  induction is generalizing s with
  | nil =>
    cases hrun
    exact h
  | cons i is ih => exact ih (nextOf_fault_ne_none i h) (runScript_cons i is s ▸ hrun)

/-- A script that keeps the contract leaves the mark as it was (R123 to R126). -/
theorem runScript_fault_of_keepsContract {is : List Instr} {s t : State} (hkeeps : KeepsContract is s)
    (hrun : runScript is s = .next t) : t.fault = s.fault := by
  induction is generalizing s with
  | nil =>
    cases hrun
    rfl
  | cons i is ih =>
    obtain ⟨hok, hrest⟩ := (keepsContract_cons i is s).mp hkeeps
    rw [ih hrest (runScript_cons i is s ▸ hrun), nextOf_fault, violation_of_contractOk hok, Option.or_none]

/-- What a script satisfies after a first part is what its rest satisfies from the state that part ends in. -/
theorem satisfies_append {is : List Instr} {s u : State} (hrun : runScript is s = .next u) (js : List Instr)
    (post : State → Prop) : Satisfies (is ++ js) s post ↔ Satisfies js u post := by
  rw [Satisfies, runScript_append, hrun, andThen, Satisfies]

/-- A script run from a state with a mark satisfies nothing (R127). -/
theorem not_satisfies_of_fault {s : State} (h : s.fault ≠ none) (is : List Instr) (post : State → Prop) :
    ¬ Satisfies is s post := by
  rintro ⟨t, hrun, hnone, -⟩
  exact runScript_fault_ne_none h hrun hnone

/-- A script with a violation in it satisfies nothing, whatever comes after (R85, R127). -/
theorem not_satisfies_of_violation {is : List Instr} {i : Instr} {s u : State} (hrun : runScript is s = .next u)
    (h : violation i u ≠ none) (js : List Instr) (post : State → Prop) : ¬ Satisfies (is ++ i :: js) s post := by
  rw [satisfies_append hrun, satisfies_cons]
  exact not_satisfies_of_fault (nextOf_fault_of_violation h) js post

/-- Settles O60: a START while busy and an early TAKE are violations, a mark is never lost, and a script that keeps the
contract ends with the mark it began with. -/
theorem faultedRunSatisfiesNothing : Obligations.FaultedRunSatisfiesNothing := by
  refine ⟨fun is js p m n s u post hrun hbusy => ?startWhileBusy, fun is js s u post hrun hearly => ?earlyTake,
    fun is s post hmark => not_satisfies_of_fault hmark is post,
    fun k s t post hmark hrun hholds => core_run_fault_ne_none hmark hrun hholds.1,
    fun is s post hkeeps hclean => ?contractKept⟩
  case startWhileBusy =>
    have hviolation : violation (.start p m n) u ≠ none := by
      rw [violation, if_pos hbusy]
      exact Option.some_ne_none _
    exact not_satisfies_of_violation hrun hviolation js post
  case earlyTake =>
    have hviolation : violation .take u ≠ none := by
      rw [violation, if_neg hearly]
      exact Option.some_ne_none _
    exact not_satisfies_of_violation hrun hviolation js post
  case contractKept =>
    obtain ⟨t, hrun⟩ := runScript_total is s
    have hnone : t.fault = none := (runScript_fault_of_keepsContract hkeeps hrun).trans hclean
    simp [Satisfies, Holds, hrun, hnone]

end Sys2Proof.Machine
end

section
/-! The sequencer's invariant along any run (R19, R90, R107, R108): the reset input establishes it, and every operation
and every step keeps it. -/

namespace Sys2Proof.Machine

/-- The reset input leaves the idle block with the bit cursor at 0, where `MSR` is not read (R137). -/
theorem flowInv_assertReset (s : State) : FlowInv (assertReset s) :=
  { flowInv_reset with shift_register := fun hmid => absurd rfl hmid }

theorem flowInv_emit {s : State} (e : Event) (h : FlowInv s) : FlowInv (emit e s) := { h with }

/-- The sequencer's invariant for one operation of any kind, contract or not. -/
theorem flowInv_nextOf {s : State} (i : Instr) (hrange : RangeInv s) (h : FlowInv s) : FlowInv (nextOf i s) := by
  cases i with
  | nop => exact h
  | start p m n => exact flowInv_startOn p m n s
  | work | workW1 | workW2 | workW3 | workW4 | workW5 | workW6 => exact flowInv_workOn _ hrange h
  | take => exact flowInv_takeByte h
  | ready | done | descriptorFor => exact flowInv_emit _ h

/-- Settles O15: a step is the reset input or one operation, after a sample is consumed, which neither invariant speaks
of. -/
theorem stepKeepsFlow : Obligations.StepKeepsFlow := by
  intro s t hrange h hstep
  obtain ⟨rest, rfl | ⟨i, -, rfl⟩⟩ := step_cases hstep
  · exact flowInv_assertReset _
  · exact flowInv_nextOf i { hrange with } { h with }

end Sys2Proof.Machine
end

section
/-! The work step (R88 to R96, R101): the action the state selects is the one performed, what each action does as
numbers, and what no work step changes. -/

namespace Sys2Proof.Machine

/-- A row with WORK's code performs the action the old state selects (R88, log entry 11). -/
theorem exec_of_selectAction {i : Instr} {s : State} {a : Action} (hi : isWork i = true) (h : selectAction s = a) :
    exec i s = .next (perform Config.device.params a s) := by
  rw [exec_eq, nextOf_work hi, workOn, h]

/-- Settles O25: the six selection conditions. -/
theorem workSelectsByPriority : Obligations.WorkSelectsByPriority := fun s =>
  ⟨execWork_eq s, selectAction_w1, selectAction_w2, selectAction_w3, selectAction_w4, selectAction_w5, selectAction_w6⟩

/-- Settles O26: with the byte complete the state selects W1. -/
theorem workNoOpWhenReady : Obligations.WorkNoOpWhenReady := fun _ hneeded =>
  have hact := selectAction_w1.mpr hneeded
  ⟨exec_of_selectAction rfl hact, exec_of_selectAction rfl hact⟩

/-- Settles O27: the window of R31 puts the pool read in range and keeps both cursors from wrapping. -/
theorem workDeliversPreambleByte : Obligations.WorkDeliversPreambleByte := by
  intro s hneeded hprem hwindow
  have hact := selectAction_w2.mpr ⟨hneeded, hprem⟩
  have hpos := toNat_ne_zero hprem
  have hcursor : (s.pcur + 1).toNat = s.pcur.toNat + 1 := BitVec.toNat_add_of_lt (by simp; omega)
  have hcount : (s.prem - 1).toNat + 1 = s.prem.toNat := by rw [toNat_sub_one hprem]; omega
  refine ⟨poolRead Config.device.params s.pcur, actW2 Config.device.params s, pool_lookup device_wf (by omega),
    exec_of_selectAction rfl hact, exec_of_selectAction rfl hact, rfl, hcursor, hcount, rfl, fun hflow => ?_⟩
  obtain ⟨-, -, hfresh⟩ := hflow.preamble_first hprem
  exact hfresh.resolve_left hneeded

/-- The bit that leaves a byte first is the quotient by 128 (R45). -/
theorem topBit_toNat (v : Byte) : (topBit v).toNat = v.toNat / 128 := by
  have hlt := v.isLt
  rw [topBit, BitVec.getLsbD, Nat.toNat_testBit]
  omega

/-- Settles O28: the shifted bytes as numbers, and two counts that are not 0 lose 1. -/
theorem workShiftsOneBit : Obligations.WorkShiftsOneBit := by
  intro s hneeded hprem halen
  have hact := selectAction_w3.mpr ⟨hneeded, hprem, halen⟩
  have hbits := toNat_ne_zero halen
  have hmissing := toNat_ne_zero hneeded
  have hlast : s.needed - 1 = 0 ↔ s.needed = 1 := sub_eq_zero
  refine ⟨actW3 s, exec_of_selectAction rfl hact, exec_of_selectAction rfl hact, rfl, ?out, ?apat, ?alen, ?needed,
    ?ready⟩
  case out => rw [actW3_out, shiftIn_toNat, topBit_toNat]
  case apat => exact shiftIn_toNat s.apat false
  case alen => rw [actW3_alen, toNat_sub_one halen]; omega
  case needed => rw [actW3_needed, toNat_sub_one hneeded]; omega
  case ready => rw [readyFlag_iff, actW3_needed, hlast]

/-- Settles O29: W4 leaves `PREM`, `ALEN` and `ZLEN` at 0, so only `NEEDED` decides between W1 and W4. -/
theorem workFinishes : Obligations.WorkFinishes := by
  intro s hneeded hprem halen hzlen
  have hact := selectAction_w4.mpr ⟨hneeded, hprem, halen, hzlen⟩
  refine ⟨actW4 s, exec_of_selectAction rfl hact, exec_of_selectAction rfl hact, rfl, rfl, rfl, fun k => ?_⟩
  split <;> rename_i hk
  · exact selectAction_w1.mpr hk
  · exact selectAction_w4.mpr ⟨hk, hprem, halen, hzlen⟩

/-- Settles O30: `NEEDED + 8` never wraps, and W5 writes neither `NEEDED` nor `OLEN`. -/
theorem workEntersFlush : Obligations.WorkEntersFlush := by
  intro s hneeded hprem halen hzlen hend
  have hact := selectAction_w5.mpr ⟨hneeded, hprem, halen, hzlen, hend⟩
  exact ⟨actW5 s, exec_of_selectAction rfl hact, exec_of_selectAction rfl hact, rfl, flushCount_toNat s.needed, rfl,
    rfl, rfl⟩

/-- The byte W6 takes its bit from, with the alignment test as a remainder (R46, R96). -/
theorem currentMessageByte_eq (s : State) :
    currentMessageByte s = if s.mbit.toNat % 8 = 0 then s.msg.read s.mbyte.toNat else s.msr := by
  simp only [currentMessageByte, byteAligned_iff]

/-- The byte cursor moves on exactly at a fetch, and does not wrap (R96, R31). -/
theorem actW6_mbyte_toNat {s : State} (h : RangeInv s) :
    (actW6 s).mbyte.toNat = if s.mbit.toNat % 8 = 0 then s.mbyte.toNat + 1 else s.mbyte.toNat := by
  have hle := h.mbyte_le
  have hup : (s.mbyte + 1).toNat = s.mbyte.toNat + 1 := BitVec.toNat_add_of_lt (by simp; omega)
  simp only [actW6_mbyte, byteAligned_iff, apply_ite BitVec.toNat, hup]

/-- W6 loads the length of the symbol of the bit it takes (R96). -/
theorem actW6_alen_toNat (s : State) :
    (actW6 s).alen.toNat = if topBit (currentMessageByte s) then s.olen.toNat else s.zlen.toNat := by
  rw [actW6_alen, apply_ite BitVec.toNat, symbolCount_toNat, symbolCount_toNat]

/-- Settles O32: the ranges keep both cursors from wrapping, and the sequencer's invariant makes the top bit of the
current byte message bit number `MBIT`. -/
theorem workTakesPayloadBit : Obligations.WorkTakesPayloadBit := by
  intro s hrange hneeded hprem halen hzlen hleft
  have hact := selectAction_w6.mpr ⟨hneeded, hprem, halen, hzlen, hleft⟩
  obtain ⟨hlt, hmbit⟩ := actW6_mbit_toNat hrange hleft
  have hmsr : (actW6 s).msr.toNat = 2 * (currentMessageByte s).toNat % 256 := shiftIn_toNat _ false
  exact ⟨currentMessageByte s, actW6 s, hlt, currentMessageByte_eq s, exec_of_selectAction rfl hact,
    exec_of_selectAction rfl hact, rfl, actW6_alen_toNat s, rfl, actW6_mbyte_toNat hrange, hmbit, hmsr, rfl, rfl, rfl,
    topBit_currentMessageByte hrange⟩

/-! ### What no work step does (R101) -/

/-- A work step writes neither the symbol patterns, the length nor the tick period of the request; it does not sample the
ports and is no reset (R101). -/
theorem workOn_frame (c : Parameters) (s : State) :
    (workOn c s).zpat = s.zpat ∧ (workOn c s).opat = s.opat ∧ (workOn c s).bitlen = s.bitlen ∧
      (workOn c s).tick = s.tick ∧ (workOn c s).input = s.input ∧ (workOn c s).resets = s.resets := by
  rw [workOn]
  cases selectAction s <;> exact ⟨rfl, rfl, rfl, rfl, rfl, rfl⟩

/-- The done action alone writes `OLEN` (R94). -/
theorem workOn_olen (c : Parameters) (s : State) :
    (workOn c s).olen = if selectAction s = .w4 then 0 else s.olen := by
  rw [workOn]
  cases selectAction s <;> rfl

/-- Entering the flush alone writes `ZLEN` (R95). -/
theorem workOn_zlen (c : Parameters) (s : State) :
    (workOn c s).zlen = if selectAction s = .w5 then 0 else s.zlen := by
  rw [workOn]
  cases selectAction s <;> rfl

/-- No work step asks for more bits of the byte. -/
theorem workOn_needed_le (c : Parameters) (s : State) : (workOn c s).needed.toNat ≤ s.needed.toNat := by
  rcases workOn_cases c s with ⟨-, e⟩ | ⟨-, -, e⟩ | ⟨hneeded, -, -, e⟩ | ⟨-, -, -, -, e⟩ | ⟨-, -, -, -, -, e⟩ |
    ⟨-, -, -, -, -, e⟩ <;> rw [e]
  · exact Nat.zero_le s.needed.toNat
  · exact (toNat_sub_one hneeded).trans_le (Nat.sub_le _ _)
  · exact Nat.zero_le s.needed.toNat
  · exact Nat.le_refl s.needed.toNat
  · exact Nat.le_refl s.needed.toNat

/-- Settles O33: the frame of the work step, its effect on the two lengths, and that `NEEDED` does not grow. -/
theorem workLeavesAlone : Obligations.WorkLeavesAlone := by
  intro i s t hi hexec
  rw [exec_next hexec, nextOf_work hi]
  obtain ⟨hzpat, hopat, hbitlen, htick, hinput, hresets⟩ := workOn_frame Config.device.params s
  exact ⟨hzpat, hopat, hbitlen, fun a => by rw [workOn_msg], htick, workOn_inflight _ s, workOn_fault _ s,
    workOn_trace _ s, hinput, hresets, workOn_needed_le _ s, workOn_olen _ s, workOn_zlen _ s⟩

/-- Once the done sentinel is set no operation but START clears it (R90, R95). -/
theorem nextOf_zlen_eq_zero {i : Instr} {s : State} (hi : isStart i = false) (h : s.zlen = 0) :
    (nextOf i s).zlen = 0 := by
  cases i with
  | start => cases hi
  | work | workW1 | workW2 | workW3 | workW4 | workW5 | workW6 =>
    exact (workOn_zlen _ s).trans (ite_eq_left_iff.mpr fun _ => h)
  | take => exact (congrArg State.zlen (takeByte_eq s)).trans h
  | nop | ready | done | descriptorFor => exact h

/-- Settles O31: the script keeps `ZLEN = 0`, and both W5 and W6 ask for `ZLEN` other than 0. -/
theorem flushIsEnteredOnce : Obligations.FlushIsEnteredOnce := by
  intro is s t hzlen hnoStart hrun
  induction is generalizing s with
  | nil =>
    cases hrun
    refine ⟨hzlen, fun hact => ?_, fun hact => ?_⟩
    · obtain ⟨-, -, -, hne, -⟩ := selectAction_w5.mp hact
      exact hne hzlen
    · obtain ⟨-, -, -, hne, -⟩ := selectAction_w6.mp hact
      exact hne hzlen
  | cons i is ih =>
    obtain ⟨hi, his⟩ : isStart i = false ∧ noStart is = true := by simpa [noStart] using hnoStart
    exact ih (nextOf i s) (nextOf_zlen_eq_zero hi hzlen) his (runScript_cons i is s ▸ hrun)

end Sys2Proof.Machine
end

section
/-! The phase view (R25) along the operations: a work step moves it forward or not at all (R97), and of the others only
START moves it. -/

namespace Sys2Proof.Machine

theorem phase_of_prem_ne {s : State} (hprem : s.prem ≠ 0) : phase s = .preamble :=
  if_pos (bne_iff_ne.mpr hprem)

theorem phase_of_zlen_ne {s : State} (hprem : s.prem = 0) (hzlen : s.zlen ≠ 0) : phase s = .payload := by
  have hsymbols : doneSentinel s = false := beq_false_of_ne hzlen
  simp [phase, hprem, hsymbols]

theorem phase_of_olen_ne {s : State} (hprem : s.prem = 0) (hzlen : s.zlen = 0) (holen : s.olen ≠ 0) :
    phase s = .flush := by
  have hgoing : doneFlag s = false := beq_false_of_ne holen
  simp [phase, hprem, (doneSentinel_iff s).mpr hzlen, hgoing]

theorem phase_of_olen_eq {s : State} (hprem : s.prem = 0) (hzlen : s.zlen = 0) (holen : s.olen = 0) :
    phase s = .done := by
  simp [phase, hprem, (doneSentinel_iff s).mpr hzlen, (doneFlag_iff s).mpr holen]

/-- The last preamble byte opens the payload, because an unsent preamble means unsent symbols (R90, R97). -/
theorem phase_actW2 {s : State} (c : Parameters) (hflow : FlowInv s) (hprem : s.prem ≠ 0) :
    phase (actW2 c s) = if s.prem = 1 then .payload else .preamble := by
  have hlast : s.prem - 1 = 0 ↔ s.prem = 1 := sub_eq_zero
  obtain ⟨hzlen, -, -⟩ := hflow.preamble_first hprem
  split <;> rename_i hone
  · exact phase_of_zlen_ne (hlast.mpr hone) hzlen
  · exact phase_of_prem_ne (mt hlast.mp hone)

/-- The phase transitions of a work step (R97): the last preamble byte, entering the flush, and the done action. -/
theorem phase_workOn {s : State} (c : Parameters) (hflow : FlowInv s) :
    phase (workOn c s) =
      if selectAction s = .w2 ∧ s.prem = 1 then .payload
      else if selectAction s = .w5 then .flush
      else if selectAction s = .w4 then .done
      else phase s := by
  rw [workOn]
  cases hact : selectAction s with
  | w2 =>
    obtain ⟨-, hprem⟩ := selectAction_w2.mp hact
    simpa [perform, phase_of_prem_ne hprem] using phase_actW2 c hflow hprem
  | w4 =>
    obtain ⟨-, hprem, -, hzlen⟩ := selectAction_w4.mp hact
    simpa [perform] using phase_of_olen_eq (s := actW4 s) hprem hzlen rfl
  | w5 =>
    obtain ⟨-, hprem, -, hzlen, -⟩ := selectAction_w5.mp hact
    have holen : s.olen ≠ 0 := olen_ne_zero_of_flow hflow (.inr hzlen)
    simpa [perform] using phase_of_olen_ne (s := actW5 s) hprem rfl holen
  | w1 | w3 | w6 => rfl

/-- The phase before each transition comes earlier in the order of a transmission (R25, R97). -/
theorem phaseRank_le_workOn {s : State} (c : Parameters) (hflow : FlowInv s) :
    phaseRank (phase s) ≤ phaseRank (phase (workOn c s)) := by
  rw [phase_workOn c hflow]
  split_ifs with hlast hflush hdone
  · obtain ⟨-, hprem⟩ := selectAction_w2.mp hlast.1
    rw [phase_of_prem_ne hprem]
    decide
  · obtain ⟨-, hprem, -, hzlen, -⟩ := selectAction_w5.mp hflush
    rw [phase_of_zlen_ne hprem hzlen]
    decide
  · cases phase s <;> decide
  · exact Nat.le_refl _

/-- TAKE and the operations that only read leave `PREM`, `ZLEN` and `OLEN`, hence the phase (R25). -/
theorem phase_nextOf {i : Instr} {s : State} (hwork : isWork i = false) (hstart : isStart i = false) :
    phase (nextOf i s) = phase s := by
  cases i with
  | start => cases hstart
  | work | workW1 | workW2 | workW3 | workW4 | workW5 | workW6 => cases hwork
  | take =>
    rw [nextOf, takeByte_eq]
    rfl
  | nop | ready | done | descriptorFor => rfl

/-- Settles O34: the transitions of a work step and their order, and the operations that leave the phase alone. -/
theorem phaseMovesForwardOnly : Obligations.PhaseMovesForwardOnly := by
  refine ⟨fun i s t hflow hi hexec => ?_, fun i s t hwork hstart hexec => ?_⟩ <;> rw [exec_next hexec]
  · rw [nextOf_work hi]
    exact ⟨phase_workOn _ hflow, phaseRank_le_workOn _ hflow⟩
  · exact phase_nextOf hwork hstart

end Sys2Proof.Machine
end

section
/-! The active pattern is sent most significant bit first (R58, R93). -/

namespace Sys2Proof.Machine

/-- Settles O36, by induction on the number of work steps: the first is W3, which moves the pattern's top bit into the
byte under construction and leaves the shifted pattern to the others. -/
theorem patternEmittedMsbFirst : Obligations.PatternEmittedMsbFirst := by
  intro s k hprem hle hneeded halen
  induction k generalizing s with
  | zero => exact ⟨s, rfl, rfl, rfl, rfl, (BitVec.shiftLeft_zero _).symm, (List.append_nil _).symm⟩
  | succ k ih =>
    have hneeded0 : s.needed ≠ 0 := fun h => by simp [h] at hneeded
    have halen0 : s.alen ≠ 0 := fun h => by simp [h] at halen
    have hmissing : (actW3 s).needed.toNat = s.needed.toNat - 1 := toNat_sub_one hneeded0
    have hbits : (actW3 s).alen.toNat = s.alen.toNat - 1 := toNat_sub_one halen0
    have hfirst : nextOf .work s = actW3 s := by
      rw [nextOf, workOn, selectAction_w3.mpr ⟨hneeded0, hprem, halen0⟩, perform]
    obtain ⟨t, hrun, hframe, halen', hneeded', hapat, hbuilt⟩ :=
      ih (actW3 s) hprem (by omega) (by omega) (by omega)
    refine ⟨t, ?run, hframe, by omega, by omega, ?apat, ?built⟩
    case run => rw [List.replicate_succ, runScript_cons, hfirst, hrun]
    case apat => rw [hapat, actW3_apat, shiftIn_false, ← BitVec.shiftLeft_add, Nat.add_comm]
    case built =>
      rw [hbuilt, builtBits_actW3 s hneeded0 hle, patternBits_succ, List.append_assoc]
      rfl

end Sys2Proof.Machine
end

section
/-! TAKE, the status reads and NOP (R103 to R108): each is the one update of the state `nextOf` names, and a TAKE with a
work step after it leaves the idle block as it was. -/

namespace Sys2Proof.Machine

/-! ### TAKE of a complete byte -/

/-- The completing TAKE ends the transmission (R107). -/
theorem takeByte_completing {s : State} (hneeded : s.needed = 0) (holen : s.olen = 0) (hinflight : s.inflight = true) :
    takeByte s =
      { s with needed := 8, inflight := false, trace := .complete :: .byte s.out true :: s.trace } := by
  simp [takeByte_eq, hneeded, (doneFlag_iff s).mpr holen, hinflight]

/-- Any other TAKE of a complete byte only asks for the next one (R103). -/
theorem takeByte_not_completing {s : State} (hneeded : s.needed = 0) (h : ¬(s.olen = 0 ∧ s.inflight = true)) :
    takeByte s = { s with needed := 8, trace := .byte s.out (doneFlag s) :: s.trace } := by
  rw [← doneFlag_iff] at h
  cases hinflight : s.inflight with
  | false => simp [takeByte_eq, hneeded, hinflight]
  | true =>
    have hdone : doneFlag s = false := by simpa [hinflight] using h
    simp [takeByte_eq, hneeded, hinflight, hdone]

/-- Settles O38: the completing TAKE and any other one. -/
theorem takeReturnsCompleteByte : Obligations.TakeReturnsCompleteByte := by
  intro s hneeded
  rw [exec_eq, nextOf]
  split
  case isTrue hcompleting => rw [takeByte_completing hneeded hcompleting.1 hcompleting.2]
  case isFalse hgoing =>
    rw [takeByte_not_completing hneeded hgoing]
    rfl

/-! ### The idle block -/

/-- The block with no transmission in progress and the zero byte ready (R108). -/
structure IdleBlock (s : State) : Prop where
  prem : s.prem = 0
  alen : s.alen = 0
  zlen : s.zlen = 0
  olen : s.olen = 0
  out : s.out = 0
  needed : s.needed = 0
  inflight : s.inflight = false

/-- The run record is no part of being idle. -/
theorem IdleBlock.emit {s : State} (h : IdleBlock s) (e : Event) : IdleBlock (emit e s) := { h with }

/-- The idle block answers a TAKE with the zero byte and `done` (R103, R107). -/
theorem takeByte_of_idleBlock {s : State} (h : IdleBlock s) :
    takeByte s = { s with needed := 8, trace := .byte 0x00 true :: s.trace } := by
  rw [takeByte_not_completing h.needed (by simp [h.inflight]), (doneFlag_iff s).mpr h.olen, h.out]

/-- The work step after that TAKE is W4, which makes the zero byte ready again (R94). -/
theorem workOn_takeByte_of_idleBlock {s : State} (h : IdleBlock s) (c : Parameters) :
    workOn c (takeByte s) = emit (.byte 0x00 true) s := by
  have hselect : selectAction { s with needed := 8, trace := .byte 0x00 true :: s.trace } = .w4 :=
    selectAction_w4.mpr ⟨(by decide : (8 : BitVec 4) ≠ 0), h.prem, h.alen, h.zlen⟩
  rw [takeByte_of_idleBlock h, workOn, hselect, perform]
  ext1 <;> simp [h.out, h.olen, h.needed]

/-- Each round of TAKE and WORK only records one more zero byte (R108). -/
theorem runScript_takeWork_of_idleBlock {s : State} (h : IdleBlock s) (k : Nat) :
    runScript (List.replicate k [Instr.take, Instr.work]).flatten s =
      .next { s with trace := List.replicate k (.byte 0x00 true) ++ s.trace } := by
  induction k generalizing s with
  | zero => rfl
  | succ k ih =>
    have hround : nextOf .work (nextOf .take s) = emit (.byte 0x00 true) s := workOn_takeByte_of_idleBlock h _
    calc runScript (List.replicate (k + 1) [Instr.take, Instr.work]).flatten s
        = runScript (List.replicate k [Instr.take, Instr.work]).flatten (emit (.byte 0x00 true) s) := by
          rw [← hround]
          exact (runScript_cons _ _ _).trans (runScript_cons _ _ _)
      _ = _ := by
          rw [ih (h.emit _), List.replicate_succ', List.append_assoc]
          rfl

/-- Settles O44. -/
theorem idleBlockSuppliesZeros : Obligations.IdleBlockSuppliesZeros :=
  fun _ k hprem halen hzlen holen hout hneeded hinflight =>
    runScript_takeWork_of_idleBlock ⟨hprem, halen, hzlen, holen, hout, hneeded, hinflight⟩ k

/-! ### NOP -/

/-- Settles O43: a decoded command has its sample's code, and NOP's is `0b00`. -/
theorem nopChangesNothing : Obligations.NopChangesNothing := by
  refine ⟨fun p => ⟨fun hnop => ?code, fun hcode => if_pos hcode⟩, exec_eq .nop⟩
  case code =>
    rw [← decode_code, hnop]
    rfl

/-- Settles O6: nothing presented is the idle sample, whose command is NOP with the reset input low (R106). -/
theorem stepWithNoCommandIsIdle : Obligations.StepWithNoCommandIsIdle := fun s hnone => by
  rw [step, fetch_nil hnone]
  exact exec_eq .nop s

/-! ### TAKE in every state -/

/-- Settles O39: `takeByte_eq`, with the flags and the counts of the run record a TAKE leaves. -/
theorem takeRestartsReadinessCycle : Obligations.TakeRestartsReadinessCycle := by
  intro s
  obtain ⟨hready, -, hdone⟩ := flags_takeByte s
  refine ⟨takeByte s, exec_eq .take s, ?update, hready, hdone, fun _ => bytesTaken_takeByte s, completions_takeByte s⟩
  case update => rw [takeByte_eq]

/-- Settles O40: the fields `takeByte_eq` does not name, and the completing TAKE's two. -/
theorem takeFrame : Obligations.TakeFrame := by
  intro s t hexec
  have hcompletions := completions_takeByte s
  rw [Bool.and_comm, takeByte_eq] at hcompletions
  rw [exec_next hexec, nextOf, takeByte_eq]
  exact ⟨rfl, rfl, rfl, rfl, rfl, rfl, rfl, rfl, rfl, rfl, rfl, rfl, rfl, rfl, rfl, rfl, fun _ => rfl, rfl, hcompletions⟩

/-! ### The status reads -/

/-- Settles O41: READY only records the flag (`nextOf`). -/
theorem readyReadsNeeded : Obligations.ReadyReadsNeeded := exec_eq .ready

/-- Settles O42: DONE only records the flag (`nextOf`). -/
theorem doneReadsOlen : Obligations.DoneReadsOlen := exec_eq .done

end Sys2Proof.Machine
end

section
/-! Runs of a script: what a run does to the invariants and to the run record, and how a run that ends with a TAKE splits
(R70, R123). -/

namespace Sys2Proof.Machine

@[simp] theorem noStart_cons (i : Instr) (is : List Instr) :
    noStart (i :: is) = true ↔ isStart i = false ∧ noStart is = true := by
  simp [noStart]

/-- A TAKE keeps the contract when the byte is complete and the transmission not yet ended (R123, R126). -/
theorem contractOk_take {s : State} : contractOk .take s = true ↔ s.needed = 0 ∧ s.inflight = true := by
  simp [contractOk, readyFlag]

/-- Both invariants hold along any run, contract or not. -/
theorem invariants_runScript {is : List Instr} {s t : State} (hrange : RangeInv s) (hflow : FlowInv s)
    (hrun : runScript is s = .next t) : RangeInv t ∧ FlowInv t := by
  induction is generalizing s with
  | nil =>
    cases hrun
    exact ⟨hrange, hflow⟩
  | cons i is ih =>
    exact ih (rangeInv_nextOf i hrange) (flowInv_nextOf i hrange hflow) (runScript_cons i is s ▸ hrun)

/-- START returns the tick period (R83). -/
theorem startOn_trace (c : Parameters) (p : Byte) (m : Message) (n : Byte) (s : State) :
    (startOn c p m n s).trace = .tick (descriptorFor c p).tickPeriod :: s.trace := by
  rw [startOn_eq]

/-- An operation adds to the run record and takes nothing from it (R10). -/
theorem trace_suffix_nextOf (i : Instr) (s : State) : s.trace <:+ (nextOf i s).trace := by
  cases i with
  | nop => exact List.suffix_rfl
  | start p m n =>
    rw [nextOf, startOn_trace]
    exact List.suffix_cons _ _
  | work | workW1 | workW2 | workW3 | workW4 | workW5 | workW6 =>
    rw [nextOf, workOn_trace]
  | take =>
    rw [nextOf, takeByte_eq]
    dsimp only
    split
    · exact (List.suffix_cons _ _).trans (List.suffix_cons _ _)
    · exact List.suffix_cons _ _
  | ready | done | descriptorFor => exact List.suffix_cons _ _

theorem trace_suffix_runScript {is : List Instr} {s t : State} (hrun : runScript is s = .next t) :
    s.trace <:+ t.trace := by
  induction is generalizing s with
  | nil =>
    cases hrun
    exact List.suffix_rfl
  | cons i is ih => exact (trace_suffix_nextOf i s).trans (ih (runScript_cons i is s ▸ hrun))

/-- Only START begins a transmission (R81). -/
theorem inflight_of_nextOf {i : Instr} {s : State} (hi : isStart i = false) (h : (nextOf i s).inflight = true) :
    s.inflight = true := by
  cases i with
  | start => cases hi
  | work | workW1 | workW2 | workW3 | workW4 | workW5 | workW6 => exact (workOn_inflight _ s).symm.trans h
  | take =>
    rw [nextOf, takeByte_eq] at h
    exact (Bool.and_eq_true_iff.mp h).1
  | nop | ready | done | descriptorFor => exact h

/-- A transmission in progress at the end of a run without START was in progress all along. -/
theorem inflight_of_runScript {is : List Instr} {s t : State} (hno : noStart is = true)
    (hrun : runScript is s = .next t) (h : t.inflight = true) : s.inflight = true := by
  induction is generalizing s with
  | nil =>
    cases hrun
    exact h
  | cons i is ih =>
    obtain ⟨hi, his⟩ := (noStart_cons i is).mp hno
    exact inflight_of_nextOf hi (ih his (runScript_cons i is s ▸ hrun))

/-- The contract of a script is that of its first part, and of the rest from the state the first part ends in. -/
theorem keepsContract_append {is js : List Instr} {s u : State} (hrun : runScript is s = .next u) :
    KeepsContract (is ++ js) s ↔ KeepsContract is s ∧ KeepsContract js u := by
  induction is generalizing s with
  | nil =>
    cases hrun
    simp [KeepsContract]
  | cons i is ih =>
    rw [List.cons_append, keepsContract_cons, keepsContract_cons, ih (runScript_cons i is s ▸ hrun), and_assoc]

theorem effectiveWorks_append {is js : List Instr} {s u : State} (hrun : runScript is s = .next u) :
    effectiveWorks (is ++ js) s = effectiveWorks is s + effectiveWorks js u := by
  induction is generalizing s with
  | nil =>
    cases hrun
    exact (Nat.zero_add _).symm
  | cons i is ih =>
    rw [List.cons_append, effectiveWorks_cons, effectiveWorks_cons, ih (runScript_cons i is s ▸ hrun), Nat.add_assoc]

/-- A START that keeps the contract, from a state without a mark, satisfies what the state it leaves shows (R85, R127). -/
theorem satisfies_start {p : Byte} {m : Message} {n : Byte} {s : State} (hidle : s.inflight = false)
    (hclean : s.fault = none) (post : State → Prop) :
    Satisfies [.start p m n] s post ↔ post (startOn Config.device.params p m n s) := by
  have hfault : (startOn Config.device.params p m n s).fault = none := by simp [startOn_eq, hidle, hclean]
  exact (satisfies_iff (runScript_cons _ _ s) post).trans (and_iff_right hfault)

/-- The run of a script up to its last operation, a TAKE that keeps the contract. -/
structure RunToTake (is : List Instr) (s u t : State) : Prop where
  run : runScript is s = .next u
  keeps : KeepsContract is s
  needed : u.needed = 0
  inflight : u.inflight = true
  taken : t = takeByte u
  works : effectiveWorks (is ++ [.take]) s = effectiveWorks is s

theorem exists_runToTake {is : List Instr} {s t : State} (hkeeps : KeepsContract (is ++ [.take]) s)
    (hrun : runScript (is ++ [.take]) s = .next t) : ∃ u, RunToTake is s u t := by
  obtain ⟨u, hu⟩ := runScript_total is s
  obtain ⟨hfirst, hlast⟩ := (keepsContract_append hu).mp hkeeps
  obtain ⟨hneeded, hinflight⟩ := contractOk_take.mp ((keepsContract_cons _ _ _).mp hlast).1
  rw [runScript_append, hu] at hrun
  refine ⟨u, hu, hfirst, hneeded, hinflight, ?_, ?_⟩
  · cases hrun
    rfl
  · rw [effectiveWorks_append hu]
    rfl

end Sys2Proof.Machine
end

section
/-! The stream law (R111, R116): along a run that keeps the contract the TAKEs return what the transmission owes, first to
last, and the one that returns the last of it completes. -/

namespace Sys2Proof.Machine

/-- The TAKE results the transmission still owes: what is pending, until the completing TAKE (R107). -/
def owed (s : State) : List (Byte × Bool) := if s.inflight then pendingTakes Config.device.params s else []

/-- The TAKE results an operation returns: one if it is a TAKE (R103). -/
def returned (i : Instr) (s : State) : List (Byte × Bool) := if i = .take then [(s.out, doneFlag s)] else []

theorem owed_of_inflight {s : State} (h : s.inflight = true) : owed s = pendingTakes Config.device.params s := if_pos h

theorem owed_of_idle {s : State} (h : s.inflight = false) : owed s = [] := by simp [owed, h]

/-- A transmission in progress owes at least its sentinel byte (R107). -/
theorem InTransmission.owed_ne_nil {s : State} (h : InTransmission s) : owed s ≠ [] := by
  rw [owed_of_inflight h.inflight]
  by_cases hneeded : s.needed = 0
  · rw [pendingTakes_of_ready _ hneeded]
    exact List.cons_ne_nil _ _
  · rw [pendingTakes_of_not_ready _ hneeded, pendingAfterByte_of_olen _ (h.olen_ne_zero hneeded)]
    exact List.append_ne_nil_of_right_ne_nil _ (List.cons_ne_nil _ _)

theorem owed_workOn {s : State} (hrange : RangeInv s) (hflow : FlowInv s) :
    owed (workOn Config.device.params s) = owed s := by
  cases hinflight : s.inflight with
  | false => rw [owed_of_idle hinflight, owed_of_idle ((workOn_inflight _ s).trans hinflight)]
  | true =>
    rw [owed_of_inflight hinflight, owed_of_inflight ((workOn_inflight _ s).trans hinflight),
      pendingTakes_workOn ⟨hrange, hflow, hinflight⟩]

/-- A legal TAKE returns the first of what is owed; the completing one leaves nothing (R103, R107). -/
theorem owed_takeByte {s : State} (hneeded : s.needed = 0) (hinflight : s.inflight = true) :
    owed s = (s.out, doneFlag s) :: owed (takeByte s) := by
  rw [owed_of_inflight hinflight, pendingTakes_of_take _ hneeded]
  cases hdone : doneFlag s with
  | true =>
    rw [pendingTakes_takeByte, pendingAfterByte_done _ (s := { s with needed := 8 }) hdone,
      owed_of_idle (by simp [takeByte_eq, hdone])]
  | false => rw [owed_of_inflight (by simp [takeByte_eq, hinflight, hdone])]

/-- What is owed is what the operation returns and what is owed after it. -/
theorem owed_nextOf {i : Instr} {s : State} (hrange : RangeInv s) (hflow : FlowInv s) (hi : isStart i = false)
    (hok : contractOk i s = true) : owed s = returned i s ++ owed (nextOf i s) := by
  cases i with
  | start => cases hi
  | work | workW1 | workW2 | workW3 | workW4 | workW5 | workW6 => exact (owed_workOn hrange hflow).symm
  | take =>
    obtain ⟨hneeded, hinflight⟩ := contractOk_take.mp hok
    exact owed_takeByte hneeded hinflight
  | nop | ready | done | descriptorFor => rfl

theorem bytesTaken_nextOf (i : Instr) (s : State) :
    bytesTaken (nextOf i s).trace = bytesTaken s.trace ++ returned i s := by
  cases i with
  | work | workW1 | workW2 | workW3 | workW4 | workW5 | workW6 =>
    rw [nextOf, workOn_trace]
    exact (List.append_nil _).symm
  | take => exact bytesTaken_takeByte s
  | nop => exact (List.append_nil _).symm
  | start p m n =>
    rw [nextOf, startOn_trace]
    exact bytesTaken_cons _ _
  | ready | done | descriptorFor => exact bytesTaken_cons _ _

theorem takes_cons (i : Instr) (is : List Instr) (s : State) : takes (i :: is) = (returned i s).length + takes is := by
  by_cases h : i = .take <;> simp [takes, returned, h, Nat.add_comm]

/-- Along a run without START that keeps the contract the TAKEs return the first of what was owed, the rest stays owed. -/
theorem owed_runScript {is : List Instr} {s t : State} (hrange : RangeInv s) (hflow : FlowInv s)
    (hno : noStart is = true) (hkeeps : KeepsContract is s) (hrun : runScript is s = .next t) :
    ∃ taken, taken.length = takes is ∧ owed s = taken ++ owed t ∧ bytesTaken t.trace = bytesTaken s.trace ++ taken := by
  induction is generalizing s with
  | nil =>
    cases hrun
    exact ⟨[], rfl, rfl, (List.append_nil _).symm⟩
  | cons i is ih =>
    obtain ⟨hi, his⟩ := (noStart_cons i is).mp hno
    obtain ⟨hok, hrest⟩ := (keepsContract_cons i is s).mp hkeeps
    obtain ⟨taken, hlength, howed, hbytes⟩ :=
      ih (rangeInv_nextOf i hrange) (flowInv_nextOf i hrange hflow) his hrest (runScript_cons i is s ▸ hrun)
    refine ⟨returned i s ++ taken, ?_, ?_, ?_⟩
    · rw [List.length_append, hlength, takes_cons i is s]
    · rw [owed_nextOf hrange hflow hi hok, howed, List.append_assoc]
    · rw [hbytes, bytesTaken_nextOf, List.append_assoc]

theorem owed_startOn (p : Byte) (m : Message) (n : Byte) (s : State) :
    owed (startOn Config.device.params p m n s) = streamTakes Config.device.params p m n := by
  rw [owed_of_inflight (inTransmission_startOn p m n s).inflight, pendingTakes_startOn]

/-- Settles O50: `pendingTakes_workOn` for any row of WORK. -/
theorem workKeepsPending : Obligations.WorkKeepsPending := by
  intro i s t hrange hflow hinflight hi hexec
  rw [exec_next hexec, nextOf_work hi, pendingTakes_workOn ⟨hrange, hflow, hinflight⟩]

/-- Settles O51. -/
theorem takeDeliversNextPending : Obligations.TakeDeliversNextPending := by
  intro s t hneeded hexec
  rw [exec_next hexec]
  exact pendingTakes_of_take _ hneeded

/-- Settles O49. -/
theorem startPendsTheStream : Obligations.StartPendsTheStream := by
  intro p m n s hidle hclean
  exact (satisfies_start hidle hclean _).mpr (pendingTakes_startOn p m n s)

/-- Settles O52: START makes the transmission owe the stream; by `owed_runScript` the TAKEs return it from the front, and
while something is owed the transmission is in progress. -/
theorem streamLaw : Obligations.StreamLaw := by
  intro p m n is s t hno hkeeps hrun
  obtain ⟨-, hkeeps⟩ := (keepsContract_cons _ _ _).mp hkeeps
  rw [runScript_cons] at hrun
  have hrange := rangeInv_startOn p m n s
  have hflow := flowInv_startOn p m n s
  obtain ⟨hrange', hflow'⟩ := invariants_runScript hrange hflow hrun
  obtain ⟨taken, hlength, howed, hbytes⟩ := owed_runScript hrange hflow hno hkeeps hrun
  have hstream : streamTakes Config.device.params p m n = taken ++ owed t := (owed_startOn p m n s).symm.trans howed
  rw [hstream, ← hlength]
  refine ⟨?bytes, ?count, ?inflight, ?tick⟩
  case bytes =>
    rw [List.take_left, hbytes, startOn_trace]
    rfl
  case count => simp
  case inflight =>
    cases hinflight : t.inflight with
    | false => simp [owed_of_idle hinflight]
    | true =>
      have hsome := List.length_pos_of_ne_nil (InTransmission.owed_ne_nil ⟨hrange', hflow', hinflight⟩)
      simp [hsome]
  case tick =>
    obtain ⟨es, hes⟩ := trace_suffix_runScript hrun
    exact ⟨es, by rw [← hes, nextOf, startOn_trace]⟩

/-- An operation other than START emits `Complete` when it ends the transmission in progress, and only then (R107). -/
theorem completions_nextOf {i : Instr} (hi : isStart i = false) (s : State) :
    completions (nextOf i s).trace + (nextOf i s).inflight.toNat = completions s.trace + s.inflight.toNat := by
  cases i with
  | start => cases hi
  | work | workW1 | workW2 | workW3 | workW4 | workW5 | workW6 => rw [nextOf, workOn_trace, workOn_inflight]
  | take =>
    have hinflight : (takeByte s).inflight = (s.inflight && !doneFlag s) := by rw [takeByte_eq]
    rw [nextOf, completions_takeByte, hinflight]
    cases doneFlag s <;> cases s.inflight <;> rfl
  | nop => rfl
  | ready | done | descriptorFor => simp [nextOf, completions]

theorem completions_runScript {is : List Instr} {s t : State} (hno : noStart is = true)
    (hrun : runScript is s = .next t) :
    completions t.trace + t.inflight.toNat = completions s.trace + s.inflight.toNat := by
  induction is generalizing s with
  | nil =>
    cases hrun
    rfl
  | cons i is ih =>
    obtain ⟨hi, his⟩ := (noStart_cons i is).mp hno
    rw [ih his (runScript_cons i is s ▸ hrun), completions_nextOf hi]

/-- Settles O53: START sets `INFLIGHT` and emits no `Complete`; from there the events emitted and `INFLIGHT` add up to one. -/
theorem completionExactlyOnce : Obligations.CompletionExactlyOnce := by
  intro p m n is s t hno _ hrun
  rw [runScript_cons] at hrun
  have hcount := completions_runScript hno hrun
  have hnone : completions (startOn Config.device.params p m n s).trace = completions s.trace := by
    rw [startOn_trace]
    simp [completions]
  rw [nextOf, hnone, (inTransmission_startOn p m n s).inflight, Bool.toNat_true] at hcount
  cases hinflight : t.inflight with
  | false => simpa [hinflight] using hcount
  | true => simpa [hinflight] using hcount

end Sys2Proof.Machine
end

section
/-! The work of a transmission (R114): START sets a number of work steps to do, each work step that is not a no-op does one
of them, and the completing TAKE finds none left. -/

namespace Sys2Proof.Machine

/-- The W3 steps left: the unsent bits not yet built into the output byte. -/
def shiftsLeft (s : State) : Nat := (unsentBits s).length - (builtBits s).length

/-- The W6 and W5 steps left: one for each message bit not yet consumed, one to enter the flush. -/
def loadsLeft (s : State) : Nat := if s.zlen = 0 then 0 else s.bitlen.toNat - s.mbit.toNat + 1

/-- The work steps left, no-ops not counted: the preamble bytes, the shifts, the loads and the sentinel action. -/
def worksLeft (s : State) : Nat :=
  if s.olen = 0 then 0 else s.prem.toNat + shiftsLeft s + loadsLeft s + 1

theorem worksLeft_of_olen {s : State} (h : s.olen ≠ 0) :
    worksLeft s = s.prem.toNat + shiftsLeft s + loadsLeft s + 1 := if_neg h

theorem loadsLeft_of_payload {s : State} (h : s.zlen ≠ 0) : loadsLeft s = s.bitlen.toNat - s.mbit.toNat + 1 := if_neg h

/-- What is built is a part of what is unsent. -/
theorem builtBits_length_le (s : State) : (builtBits s).length ≤ (unsentBits s).length := by
  by_cases hzlen : s.zlen = 0
  · rw [unsentBits_of_flush hzlen, List.length_append]
    exact Nat.le_add_right _ _
  · rw [unsentBits_of_payload hzlen, paddedBits]
    simp only [List.length_append]
    omega

/-- A complete byte is unsent in front of the bits that are unsent once it is taken. -/
theorem unsentBits_of_ready {s : State} (h : s.needed = 0) :
    unsentBits s = builtBits s ++ unsentBits { s with needed := 8 } := by
  have hlength : (builtBits s).length = 8 := by rw [builtBits_length, h]; rfl
  have hnone : builtBits { s with needed := 8 } = [] := builtBits_none rfl
  by_cases hzlen : s.zlen = 0
  · rw [unsentBits_of_flush hzlen, unsentBits_of_flush (s := { s with needed := 8 }) hzlen, hnone, List.nil_append]
  · rw [unsentBits_of_payload hzlen, unsentBits_of_payload (s := { s with needed := 8 }) hzlen, hnone,
      List.append_assoc, paddedBits_byte _ _ hlength, List.nil_append]
    rfl

/-- Taking a complete byte leaves the shifts to do as they are. -/
theorem shiftsLeft_of_ready {s : State} (h : s.needed = 0) : shiftsLeft { s with needed := 8 } = shiftsLeft s := by
  rw [shiftsLeft, shiftsLeft, unsentBits_of_ready h, builtBits_none (s := { s with needed := 8 }) rfl]
  simp

/-- A work step that neither builds a bit nor changes the unsent ones leaves the shifts to do as they are. -/
theorem shiftsLeft_congr {s t : State} (hneeded : t.needed = s.needed) (hbits : unsentBits t = unsentBits s) :
    shiftsLeft t = shiftsLeft s := by
  rw [shiftsLeft, shiftsLeft, hbits, builtBits_length, builtBits_length, hneeded]

/-- A preamble byte is built whole, past the unsent bits (R92). -/
theorem shiftsLeft_actW2 (c : Parameters) {s : State} (h : s.needed = 8) : shiftsLeft (actW2 c s) = shiftsLeft s := by
  rw [← shiftsLeft_of_ready (s := actW2 c s) rfl]
  refine shiftsLeft_congr h.symm ?_
  rw [unsentBits, unsentBits, builtBits_none h, builtBits_none rfl]
  rfl

theorem shiftsLeft_actW3 {s : State} (hneeded : s.needed ≠ 0) (hle : s.needed.toNat ≤ 8) (halen : s.alen ≠ 0) :
    shiftsLeft s = shiftsLeft (actW3 s) + 1 := by
  have hpart := builtBits_length_le (actW3 s)
  have hbuilt : (builtBits (actW3 s)).length = (builtBits s).length + 1 := by
    rw [builtBits_actW3 s hneeded hle, List.length_append, List.length_singleton]
  rw [unsentBits_actW3 hneeded hle halen, hbuilt] at hpart
  rw [shiftsLeft, shiftsLeft, unsentBits_actW3 hneeded hle halen, hbuilt]
  omega

/-- With the active pattern empty in the flush all bits are built. -/
theorem shiftsLeft_of_flushed {s : State} (halen : s.alen = 0) (hzlen : s.zlen = 0) : shiftsLeft s = 0 := by
  simp [shiftsLeft, unsentBits_of_flush hzlen, halen]

theorem loadsLeft_actW6 {s : State} (hrange : RangeInv s) (hzlen : s.zlen ≠ 0) (hleft : s.mbit ≠ s.bitlen) :
    loadsLeft s = loadsLeft (actW6 s) + 1 := by
  obtain ⟨hlt, hmbit⟩ := actW6_mbit_toNat hrange hleft
  rw [loadsLeft_of_payload hzlen, loadsLeft_of_payload (s := actW6 s) hzlen, hmbit, actW6_bitlen]
  omega

/-- A work step on an incomplete byte does one of the work steps left. -/
theorem worksLeft_workOn {s : State} (h : InTransmission s) (hneeded : s.needed ≠ 0) (c : Parameters) :
    worksLeft s = worksLeft (workOn c s) + 1 := by
  have hle := h.range.needed_le
  have holen := h.olen_ne_zero hneeded
  rw [worksLeft_of_olen holen]
  rcases workOn_cases c s with ⟨h0, -⟩ | ⟨-, hprem, e⟩ | ⟨-, hprem, halen, e⟩ |
    ⟨-, hprem, halen, hzlen, e⟩ | ⟨-, hprem, halen, hzlen, hend, e⟩ | ⟨-, hprem, halen, hzlen, hleft, e⟩
  · exact absurd h0 hneeded
  · obtain ⟨-, -, hfresh⟩ := h.flow.preamble_first hprem
    have hpos := toNat_ne_zero hprem
    have hloads : loadsLeft (actW2 c s) = loadsLeft s := rfl
    rw [e, worksLeft_of_olen (s := actW2 c s) holen, shiftsLeft_actW2 c (hfresh.resolve_left hneeded), hloads,
      actW2_prem, toNat_sub_one hprem]
    omega
  · have hloads : loadsLeft (actW3 s) = loadsLeft s := rfl
    rw [e, worksLeft_of_olen (s := actW3 s) holen, hloads, shiftsLeft_actW3 hneeded hle halen, actW3_prem]
    omega
  · have hloads : loadsLeft s = 0 := if_pos hzlen
    have hdone : worksLeft (actW4 s) = 0 := if_pos rfl
    rw [e, hdone, shiftsLeft_of_flushed halen hzlen, hloads, hprem]
    rfl
  · have hloads : loadsLeft (actW5 s) = 0 := if_pos rfl
    rw [e, worksLeft_of_olen (s := actW5 s) holen, hloads, loadsLeft_of_payload hzlen, hend,
      shiftsLeft_congr (s := s) (t := actW5 s) rfl (unsentBits_actW5 hneeded hle halen hzlen hend), actW5_prem]
    omega
  · rw [e, worksLeft_of_olen (s := actW6 s) holen, loadsLeft_actW6 h.range hzlen hleft,
      shiftsLeft_congr (s := s) (t := actW6 s) rfl (unsentBits_actW6 h.range h.flow halen hzlen hleft), actW6_prem]
    omega

/-- A TAKE of a complete byte does none. -/
theorem worksLeft_takeByte {s : State} (h : s.needed = 0) : worksLeft (takeByte s) = worksLeft s := by
  have hshifts : shiftsLeft (takeByte s) = shiftsLeft s := by
    rw [← shiftsLeft_of_ready h, takeByte_eq]
    rfl
  rw [worksLeft, worksLeft, hshifts, takeByte_eq]
  rfl

/-- Whether a step is a work step that is not a no-op (R91, R114). -/
def effective (i : Instr) (s : State) : Nat := if i.code = 0b10#2 ∧ selectAction s ≠ .w1 then 1 else 0

theorem effective_of_work {i : Instr} {s : State} (hi : isWork i = true) :
    effective i s = if s.needed = 0 then 0 else 1 := by
  have hcode : i.code = 0b10#2 := by simpa [isWork] using hi
  simp [effective, hcode, selectAction_w1]

theorem effective_of_not_work {i : Instr} {s : State} (hi : isWork i = false) : effective i s = 0 := by
  have hcode : i.code ≠ 0b10#2 := by simpa [isWork] using hi
  exact if_neg fun h => hcode h.1

/-- A script counts the work of its first operation and that of the rest (R114). -/
theorem effectiveWorks_eq (i : Instr) (is : List Instr) (s : State) :
    effectiveWorks (i :: is) s = effective i s + effectiveWorks is (nextOf i s) := effectiveWorks_cons i is s

/-- In a transmission every operation that keeps the contract does of the work left what it counts as. -/
theorem worksLeft_nextOf {i : Instr} {s : State} (h : InTransmission s) (hi : isStart i = false)
    (hok : contractOk i s = true) : worksLeft s = effective i s + worksLeft (nextOf i s) := by
  by_cases hwork : isWork i = true
  · rw [effective_of_work hwork, nextOf_work hwork]
    split <;> rename_i hneeded
    · rw [workOn_of_ready _ hneeded, Nat.zero_add]
    · rw [worksLeft_workOn h hneeded, Nat.add_comm]
  · rw [effective_of_not_work (Bool.eq_false_of_not_eq_true hwork), Nat.zero_add]
    cases i with
    | start => cases hi
    | work | workW1 | workW2 | workW3 | workW4 | workW5 | workW6 => exact absurd rfl hwork
    | take => exact (worksLeft_takeByte (contractOk_take.mp hok).1).symm
    | nop | ready | done | descriptorFor => rfl

/-- A run within a transmission does of the work left what it counts. -/
theorem worksLeft_runScript {is : List Instr} {s t : State} (hrange : RangeInv s) (hflow : FlowInv s)
    (hno : noStart is = true) (hkeeps : KeepsContract is s) (hrun : runScript is s = .next t)
    (hinflight : t.inflight = true) : worksLeft s = effectiveWorks is s + worksLeft t := by
  induction is generalizing s with
  | nil =>
    cases hrun
    exact (Nat.zero_add _).symm
  | cons i is ih =>
    have hbusy : s.inflight = true := inflight_of_runScript hno hrun hinflight
    obtain ⟨hi, his⟩ := (noStart_cons i is).mp hno
    obtain ⟨hok, hrest⟩ := (keepsContract_cons i is s).mp hkeeps
    rw [worksLeft_nextOf ⟨hrange, hflow, hbusy⟩ hi hok, effectiveWorks_eq, Nat.add_assoc,
      ih (rangeInv_nextOf i hrange) (flowInv_nextOf i hrange hflow) his hrest (runScript_cons i is s ▸ hrun)]

/-- After START the payload of the request and its flush are unsent (R110). -/
theorem unsentBits_startOn (p : Byte) (m : Message) (n : Byte) (s : State) :
    unsentBits (startOn Config.device.params p m n s) =
      paddedBits (payloadBits (descriptorFor Config.device.params p) m (clampLength n).toNat) := by
  obtain ⟨hzlen, -⟩ := descriptorFor_lengths_ne_zero p
  rw [unsentBits_of_payload (by rw [startOn_eq]; exact hzlen), builtBits_none (by rw [startOn_eq]; rfl),
    unsentSymbols_startOn, startOn_eq]
  rfl

/-- START sets `W` work steps to do (R114). -/
theorem worksLeft_startOn (p : Byte) (m : Message) (n : Byte) (s : State) :
    worksLeft (startOn Config.device.params p m n s) =
      workSteps (descriptorFor Config.device.params p) m (min n.toNat 128) := by
  obtain ⟨hzlen, holen⟩ := descriptorFor_lengths_ne_zero p
  have hneeded : (startOn Config.device.params p m n s).needed = 8 := by rw [startOn_eq]; rfl
  have hshifts : shiftsLeft (startOn Config.device.params p m n s) =
      (paddedBits (payloadBits (descriptorFor Config.device.params p) m (min n.toNat 128))).length := by
    rw [shiftsLeft, unsentBits_startOn, builtBits_none hneeded, clampLength_toNat]
    rfl
  have hloads : loadsLeft (startOn Config.device.params p m n s) = min n.toNat 128 + 1 := by
    rw [loadsLeft_of_payload (by rw [startOn_eq]; exact hzlen), startOn_eq]
    simp [loadTransmission]
  have hprem : (startOn Config.device.params p m n s).prem = (descriptorFor Config.device.params p).preLen := by
    rw [startOn_eq]
    rfl
  rw [worksLeft_of_olen (by rw [startOn_eq]; exact holen), hshifts, hloads, hprem, workSteps, paddedBits,
    List.length_append, List.length_replicate]
  omega

/-- Preambles, symbols and messages are bounded, so the work of a transmission is (R6, R7, R114). -/
theorem workSteps_le (p : Byte) (m : Message) {n : Nat} (hn : n ≤ 128) :
    workSteps (descriptorFor Config.device.params p) m n ≤ 1201 := by
  have hpreamble := (descriptorFor Config.device.params p).preLen.isLt
  have hpayload := payloadBits_length_le p m n
  rw [workSteps, flushLength]
  omega

/-- Settles O57: START sets `W` work steps to do, the run does of them what it counts, and when the last TAKE completes
the transmission `OLEN` is 0, with no work step left. -/
theorem workStepCount : Obligations.WorkStepCount := by
  rintro p m n is s t d rfl hno hkeeps hrun hend
  obtain ⟨-, hkeeps⟩ := (keepsContract_cons _ _ _).mp hkeeps
  rw [runScript_cons] at hrun
  obtain ⟨u, hu⟩ := exists_runToTake hkeeps hrun
  have hdone : doneFlag u = true := by simpa [hu.taken, takeByte_eq, hu.inflight] using hend
  have hnone : worksLeft u = 0 := if_pos ((doneFlag_iff u).mp hdone)
  have hcount := worksLeft_runScript (rangeInv_startOn p m n s) (flowInv_startOn p m n s) hno hu.keeps hu.run hu.inflight
  rw [worksLeft_startOn, hnone] at hcount
  refine ⟨?_, workSteps_le p m (Nat.min_le_right _ _)⟩
  rw [effectiveWorks_eq, effective_of_not_work rfl, hu.works, hcount, Nat.zero_add]
  rfl

end Sys2Proof.Machine
end

section
/-! Schedule independence (R121). In a run that keeps the contract every operation either leaves the registers and the bytes
taken as they are or does the one thing their state admits: take the byte if it is complete, else a work step. So these
operations alone determine where the run is. -/

namespace Sys2Proof.Machine

/-- Where a run is: its state without the run record, and the bytes taken. -/
def position (s : State) : State × List (Byte × Bool) := ({ s with trace := [] }, bytesTaken s.trace)

/-- The one move a position admits: the TAKE of a complete byte, else a work step. -/
def advance (x : State × List (Byte × Bool)) : State × List (Byte × Bool) :=
  if x.1.needed = 0 then ({ takeByte x.1 with trace := [] }, x.2 ++ [(x.1.out, doneFlag x.1)])
  else (workOn Config.device.params x.1, x.2)

theorem returned_of_work {i : Instr} (hi : isWork i = true) (s : State) : returned i s = [] :=
  if_neg (by rintro rfl; cases hi)

/-- How many moves an operation makes. -/
def moves (i : Instr) (s : State) : Nat := effective i s + (returned i s).length

theorem advance_of_ready {x : State × List (Byte × Bool)} (h : x.1.needed = 0) :
    advance x = ({ takeByte x.1 with trace := [] }, x.2 ++ [(x.1.out, doneFlag x.1)]) := if_pos h

theorem advance_of_not_ready {x : State × List (Byte × Bool)} (h : x.1.needed ≠ 0) :
    advance x = (workOn Config.device.params x.1, x.2) := if_neg h

/-- A work step does not read the run record. -/
theorem workOn_forget_trace (c : Parameters) (s : State) :
    workOn c { s with trace := [] } = { workOn c s with trace := [] } := by
  have hselect : selectAction { s with trace := [] } = selectAction s := rfl
  rw [workOn, workOn, hselect]
  cases selectAction s <;> rfl

theorem position_workOn {s : State} (h : s.needed ≠ 0) :
    position (workOn Config.device.params s) = advance (position s) := by
  rw [advance_of_not_ready (x := position s) h]
  simp only [position, workOn_trace, workOn_forget_trace]

theorem position_takeByte {s : State} (h : s.needed = 0) : position (takeByte s) = advance (position s) := by
  rw [advance_of_ready (x := position s) h, position, bytesTaken_takeByte]
  simp only [position, takeByte_eq]
  rfl

/-- Every operation that keeps the contract, START apart, makes at most one move, the one admitted. -/
theorem position_nextOf {i : Instr} {s : State} (hi : isStart i = false) (hok : contractOk i s = true) :
    position (nextOf i s) = advance^[moves i s] (position s) := by
  by_cases hwork : isWork i = true
  · rw [moves, effective_of_work hwork, returned_of_work hwork, nextOf_work hwork]
    split <;> rename_i hneeded
    · rw [workOn_of_ready _ hneeded]
      rfl
    · exact position_workOn hneeded
  · rw [moves, effective_of_not_work (Bool.eq_false_of_not_eq_true hwork)]
    cases i with
    | start => cases hi
    | work | workW1 | workW2 | workW3 | workW4 | workW5 | workW6 => exact absurd rfl hwork
    | take => exact position_takeByte (contractOk_take.mp hok).1
    | nop | ready | done | descriptorFor => simp [returned, nextOf, position, bytesTaken]

/-- So does every script: as many moves as it has work steps that are not no-ops and TAKEs. -/
theorem position_runScript {is : List Instr} {s t : State} (hno : noStart is = true) (hkeeps : KeepsContract is s)
    (hrun : runScript is s = .next t) : position t = advance^[effectiveWorks is s + takes is] (position s) := by
  induction is generalizing s with
  | nil =>
    cases hrun
    rfl
  | cons i is ih =>
    obtain ⟨hi, his⟩ := (noStart_cons i is).mp hno
    obtain ⟨hok, hrest⟩ := (keepsContract_cons i is s).mp hkeeps
    have hcount : effectiveWorks (i :: is) s + takes (i :: is) =
        effectiveWorks is (nextOf i s) + takes is + moves i s := by
      rw [effectiveWorks_eq, takes_cons i is s, moves]
      omega
    rw [hcount, Function.iterate_add_apply, ← position_nextOf hi hok, ih his hrest (runScript_cons i is s ▸ hrun)]

/-- A run takes as many bytes as it has TAKEs. -/
theorem bytesTaken_length_runScript {is : List Instr} {s t : State} (hrun : runScript is s = .next t) :
    (bytesTaken t.trace).length = (bytesTaken s.trace).length + takes is := by
  induction is generalizing s with
  | nil =>
    cases hrun
    rfl
  | cons i is ih =>
    rw [ih (runScript_cons i is s ▸ hrun), bytesTaken_nextOf, List.length_append, takes_cons i is s, Nat.add_assoc]

/-- No move loses a byte taken. -/
theorem bytes_le_advance (x : State × List (Byte × Bool)) : x.2.length ≤ (advance x).2.length := by
  rw [advance]
  split
  · simp
  · exact Nat.le_refl _

theorem bytes_le_iterate_advance (k : Nat) (x : State × List (Byte × Bool)) :
    x.2.length ≤ (advance^[k] x).2.length := by
  induction k generalizing x with
  | zero => exact Nat.le_refl _
  | succ k ih => exact (bytes_le_advance x).trans (ih (advance x))

/-- Between two positions with a complete byte that byte is taken, so the later one has more bytes. -/
theorem bytes_lt_of_lt {a b : Nat} (hab : a < b) {x : State × List (Byte × Bool)}
    (hready : (advance^[a] x).1.needed = 0) : (advance^[a] x).2.length < (advance^[b] x).2.length := by
  obtain ⟨k, rfl⟩ := Nat.exists_eq_add_of_lt hab
  have hmore : (advance^[a] x).2.length < (advance (advance^[a] x)).2.length := by
    rw [advance_of_ready hready, List.length_append, List.length_singleton]
    exact Nat.lt_succ_self _
  rw [show a + k + 1 = k + (a + 1) by omega, Function.iterate_add_apply, Function.iterate_succ_apply']
  exact hmore.trans_le (bytes_le_iterate_advance k _)

/-- Of the positions with a complete byte there is one for each number of bytes taken. -/
theorem moves_eq_of_bytes_eq {a b : Nat} {x : State × List (Byte × Bool)} (ha : (advance^[a] x).1.needed = 0)
    (hb : (advance^[b] x).1.needed = 0) (hbytes : (advance^[a] x).2.length = (advance^[b] x).2.length) : a = b := by
  obtain hlt | heq | hgt := Nat.lt_trichotomy a b
  · exact absurd hbytes (bytes_lt_of_lt hlt ha).ne
  · exact heq
  · exact absurd hbytes (bytes_lt_of_lt hgt hb).ne'

/-- Settles O59: before the last TAKE both runs are at a position with a complete byte and the same number of bytes taken,
so after the same moves. -/
theorem scheduleIndependence : Obligations.ScheduleIndependence := by
  intro is js s t u hnoI hnoJ htakes hkeepsI hkeepsJ hrunI hrunJ
  obtain ⟨v, hv⟩ := exists_runToTake hkeepsI hrunI
  obtain ⟨w, hw⟩ := exists_runToTake hkeepsJ hrunJ
  have hpos := position_runScript hnoI hv.keeps hv.run
  have hpos' := position_runScript hnoJ hw.keeps hw.run
  have hbytes : (position v).2.length = (position w).2.length := by
    rw [position, position, bytesTaken_length_runScript hv.run, bytesTaken_length_runScript hw.run, htakes]
  have hcount : effectiveWorks is s + takes is = effectiveWorks js s + takes js :=
    moves_eq_of_bytes_eq (by rw [← hpos]; exact hv.needed) (by rw [← hpos']; exact hw.needed)
      (by rw [← hpos, ← hpos', hbytes])
  have hsame : position t = position u := by
    rw [hv.taken, hw.taken, position_takeByte hv.needed, position_takeByte hw.needed, hpos, hpos', hcount]
  refine ⟨congrArg Prod.fst hsame, congrArg Prod.snd hsame, ?_⟩
  rw [hv.works, hw.works]
  omega

end Sys2Proof.Machine
end

section
/-! The flush keeps byte boundaries (R115), and the byte is ready in time (R117). -/

namespace Sys2Proof.Machine

/-- W3 shortens the bits left and the bits needed alike (R93). -/
theorem flushAligned_actW3 {s : State} (h : FlushAligned s) (hneeded : s.needed ≠ 0) (halen : s.alen ≠ 0) :
    FlushAligned (actW3 s) := by
  intro hzlen holen
  have hpos := toNat_ne_zero hneeded
  have hpos' := toNat_ne_zero halen
  have haligned := h hzlen holen
  rw [actW3_alen, actW3_needed, toNat_sub_one halen, toNat_sub_one hneeded]
  omega

/-- W5 enters the flush with one whole byte more than is needed (R95). -/
theorem flushAligned_actW5 (s : State) : FlushAligned (actW5 s) := fun _ _ => by
  rw [actW5_alen, flushCount_toNat, actW5_needed, Nat.add_mod_right]

theorem flushAligned_workOn {s : State} (c : Parameters) (hflow : FlowInv s) (h : FlushAligned s) :
    FlushAligned (workOn c s) := by
  rcases workOn_cases c s with ⟨-, e⟩ | ⟨-, hprem, e⟩ | ⟨hneeded, -, halen, e⟩ | ⟨-, -, -, -, e⟩ |
    ⟨-, -, -, -, -, e⟩ | ⟨-, -, -, hzlen, -, e⟩ <;> rw [e]
  · exact h
  · exact fun hzlen => absurd hzlen (hflow.preamble_first hprem).1
  · exact flushAligned_actW3 h hneeded halen
  · exact fun _ holen => absurd rfl holen
  · exact flushAligned_actW5 s
  · exact fun hflush => absurd hflush hzlen

/-- A TAKE of a complete byte asks for a whole byte more; an early one would not (R103). -/
theorem flushAligned_takeByte {s : State} (h : FlushAligned s) (hneeded : s.needed = 0) : FlushAligned (takeByte s) := by
  intro hzlen holen
  rw [takeByte_eq] at hzlen holen ⊢
  have haligned := h hzlen holen
  rw [hneeded] at haligned
  exact haligned.trans (show (0 : BitVec 4).toNat % 8 = (8 : BitVec 4).toNat % 8 by decide)

theorem flushAligned_nextOf {i : Instr} {s : State} (hflow : FlowInv s) (h : FlushAligned s)
    (hok : contractOk i s = true) : FlushAligned (nextOf i s) := by
  cases i with
  | start p m n => exact flushAligned_startOn p m n s
  | work | workW1 | workW2 | workW3 | workW4 | workW5 | workW6 => exact flushAligned_workOn _ hflow h
  | take => exact flushAligned_takeByte h (contractOk_take.mp hok).1
  | nop | ready | done | descriptorFor => exact h

/-- Settles O17: every operation that keeps the contract keeps the alignment, and with the pattern used up a byte that is
not complete then lacks all its bits. -/
theorem flushStaysAligned : Obligations.FlushStaysAligned := by
  refine ⟨fun i s t _ hflow h hok hexec => ?_, fun s hrange h hselect holen => ?_⟩
  · rw [exec_next hexec]
    exact flushAligned_nextOf hflow h hok
  · obtain ⟨hneeded, -, halen, hzlen⟩ := selectAction_w4.mp hselect
    have hpos := toNat_ne_zero hneeded
    have hle := hrange.needed_le
    have haligned := h hzlen holen
    rw [halen, show (0 : BitVec 5).toNat = 0 from rfl] at haligned
    have height : s.needed.toNat = 8 := by omega
    exact BitVec.eq_of_toNat_eq height

theorem runScript_replicate_work (k : Nat) (s : State) :
    runScript (List.replicate k .work) s = .next ((workOn Config.device.params)^[k] s) := by
  induction k generalizing s with
  | zero => rfl
  | succ k ih => exact (runScript_cons _ _ s).trans (ih _)

/-- Settles O37: as many work steps as `worksToReady` allows make the byte ready. -/
theorem byteReadyWithinBound : Obligations.ByteReadyWithinBound := by
  intro s L hneeded hL _ hsymbols
  have hbound := worksToReady_of_fresh (L := L) hneeded
  have hloads : (8 + L - 1) / L ≤ 8 := Nat.div_le_of_le_mul (by omega)
  exact ⟨worksToReady L s, _, hbound, by omega, runScript_replicate_work _ s,
    (readyFlag_iff _).mpr (needed_iterate_workOn _ hL hsymbols (Nat.le_refl _))⟩

end Sys2Proof.Machine
end

section
/-! The closed form of the stream: its length (R113), the zero bytes it ends in (R112), and the message of no bits (R118). -/

namespace Sys2Proof.Machine

/-- Settles O55. -/
theorem streamLength : Obligations.StreamLength := by
  rintro p m n d rfl
  have hlength := streamTakes_length p m n
  exact ⟨hlength, by omega, streamTakes_length_le p m n⟩

theorem packBytes_zeros : packBytes (List.replicate 8 false) = [0x00] := by decide

/-- The last eight of the flush's zeros are a byte of their own (R110). -/
theorem packBytes_paddedBits (l : List Bool) :
    packBytes (paddedBits l) = packBytes (l ++ List.replicate (8 - l.length % 8) false) ++ [0x00] := by
  have hwhole : (l ++ List.replicate (8 - l.length % 8) false).length % 8 = 0 := by
    rw [List.length_append, List.length_replicate]
    omega
  rw [paddedBits, flushLength, List.replicate_add, ← List.append_assoc, packBytes_append _ _ hwhole, packBytes_zeros]

/-- After whole bytes the flush makes two bytes of zeros. -/
theorem packBytes_paddedBits_of_whole {l : List Bool} (h : l.length % 8 = 0) :
    packBytes (paddedBits l) = packBytes l ++ [0x00, 0x00] := by
  rw [packBytes_paddedBits, h, packBytes_append _ _ h, packBytes_zeros, List.append_assoc]
  rfl

/-- Settles O56: the flush's zero bytes come last but for the sentinel byte. -/
theorem streamEndsInZeros : Obligations.StreamEndsInZeros := by
  rintro p m n d rfl
  simp only [streamTakes, dataBytes, clampLength_toNat]
  refine ⟨?two, fun hwhole => ?three⟩
  case two =>
    rw [packBytes_paddedBits, ← List.append_assoc, List.map_append, List.append_assoc]
    exact ⟨_, rfl⟩
  case three =>
    rw [packBytes_paddedBits_of_whole hwhole, ← List.append_assoc, List.map_append, List.append_assoc]
    exact ⟨_, rfl⟩

/-- Without message bits the payload is empty and the data is the preamble and the flush's two zero bytes (R118). -/
theorem streamTakes_zero_length (p : Byte) (m : Message) :
    streamTakes Config.device.params p m 0 =
      (preambleBytes Config.device.params (descriptorFor Config.device.params p)).map (fun b => (b, false)) ++
        [(0x00, false), (0x00, false), (0x00, true)] := by
  have hpayload : payloadBits (descriptorFor Config.device.params p) m (clampLength 0).toNat = [] := rfl
  rw [streamTakes, dataBytes, hpayload, packBytes_paddedBits_of_whole rfl, List.map_append, List.append_assoc]
  rfl

/-- The transmission has no message bits, and none has been fetched. -/
structure NoMessageBits (s : State) : Prop where
  bitlen : s.bitlen = 0
  mbit : s.mbit = 0
  mbyte : s.mbyte = 0

/-- W6 alone moves the cursors, and it is not selected with the bit cursor at the length (R96). -/
theorem NoMessageBits.workOn {s : State} (h : NoMessageBits s) (c : Parameters) : NoMessageBits (workOn c s) := by
  rcases workOn_cases c s with ⟨-, e⟩ | ⟨-, -, e⟩ | ⟨-, -, -, e⟩ | ⟨-, -, -, -, e⟩ | ⟨-, -, -, -, -, e⟩ |
    ⟨-, -, -, -, hleft, e⟩ <;> rw [e]
  · exact h
  · exact { h with }
  · exact { h with }
  · exact { h with }
  · exact { h with }
  · exact absurd (h.mbit.trans h.bitlen.symm) hleft

theorem NoMessageBits.nextOf {i : Instr} {s : State} (h : NoMessageBits s) (hi : isStart i = false) :
    NoMessageBits (nextOf i s) := by
  cases i with
  | start => cases hi
  | work | workW1 | workW2 | workW3 | workW4 | workW5 | workW6 => exact h.workOn _
  | take =>
    rw [Machine.nextOf, takeByte_eq]
    exact { h with }
  | nop | ready | done | descriptorFor => exact { h with }

theorem NoMessageBits.runScript {is : List Instr} {s t : State} (h : NoMessageBits s) (hno : noStart is = true)
    (hrun : runScript is s = .next t) : NoMessageBits t := by
  induction is generalizing s with
  | nil =>
    cases hrun
    exact h
  | cons i is ih =>
    obtain ⟨hi, his⟩ := (noStart_cons i is).mp hno
    exact ih (h.nextOf hi) his (runScript_cons i is s ▸ hrun)

theorem noMessageBits_startOn (c : Parameters) (p : Byte) (m : Message) (s : State) :
    NoMessageBits (startOn c p m 0 s) := by
  rw [startOn_eq]
  exact ⟨rfl, rfl, rfl⟩

/-- A transmission of no message bits begins with its preamble, or with the flush if it has none (R118). -/
theorem selectAction_startOn_zero_length (p : Byte) (m : Message) (s : State) :
    selectAction (startOn Config.device.params p m 0 s) =
      if (descriptorFor Config.device.params p).preLen = 0 then .w5 else .w2 := by
  obtain ⟨hzlen, -⟩ := descriptorFor_lengths_ne_zero p
  have height : (8 : BitVec 4) ≠ 0 := by decide
  rw [startOn_eq]
  by_cases hpreamble : (descriptorFor Config.device.params p).preLen = 0
  · rw [if_pos hpreamble]
    exact selectAction_w5.mpr ⟨height, hpreamble, rfl, hzlen, rfl⟩
  · rw [if_neg hpreamble]
    exact selectAction_w2.mpr ⟨height, hpreamble⟩

/-- Settles O58: the stream in closed form, the first action, and no cursor moved in a run that keeps the contract and so
ends without a fault. -/
theorem zeroLengthMessage : Obligations.ZeroLengthMessage := by
  rintro p m s d rfl hidle hclean
  refine ⟨streamTakes_zero_length p m, ?firstAction, fun is hno hkeeps => ?noFetch⟩
  case firstAction => exact (satisfies_start hidle hclean _).mpr (selectAction_startOn_zero_length p m s)
  case noFetch =>
    obtain ⟨u, hrun⟩ := runScript_total (.start p m 0 :: is) s
    have hnone := (noMessageBits_startOn Config.device.params p m s).runScript hno (runScript_cons _ _ s ▸ hrun)
    exact (satisfies_iff hrun _).mpr
      ⟨(runScript_fault_of_keepsContract hkeeps hrun).trans hclean, hnone.mbit, hnone.mbyte⟩

end Sys2Proof.Machine
end

section
/-! The fault mark of one operation and one step (R122 to R127): it is set once, by a violation of the contract, and then
stays as it is. -/

namespace Sys2Proof.Machine

/-- `raise` keeps the mark there is, and sets its own when there is none (R127). -/
theorem raise_eq (f : Fault) (s : State) : raise f s = { s with fault := some (s.fault.getD f) } := by
  rw [raise, Option.or_some]

/-- No operation changes a mark, whatever it violates itself (R127). -/
theorem nextOf_fault_eq_some {s : State} {f : Fault} (i : Instr) (h : s.fault = some f) :
    (nextOf i s).fault = some f := by
  rw [nextOf_fault, h, Option.some_or]

/-- From a state with no mark, the mark an operation leaves is its own violation (R122). -/
theorem nextOf_fault_eq_violation {s : State} (i : Instr) (h : s.fault = none) :
    (nextOf i s).fault = violation i s := by
  rw [nextOf_fault, h, Option.none_or]

/-- Settles O45: `raise` as one update, one operation, and a step, which is the reset input or one operation. -/
theorem faultMarkIsSticky : Obligations.FaultMarkIsSticky := by
  refine ⟨raise_eq, fun i s t f h hexec => ?operation, fun s t f h hstep => ?step⟩
  case operation => rw [exec_next hexec, nextOf_fault_eq_some i h]
  case step =>
    obtain ⟨rest, rfl | ⟨i, -, rfl⟩⟩ := step_cases hstep
    · exact h
    · exact nextOf_fault_eq_some i h

/-- Settles O46: the mark is the operation's violation, which only TAKE and START can commit. -/
theorem faultOnlyFromBrokenContract : Obligations.FaultOnlyFromBrokenContract := by
  intro i s t hclean hexec
  rw [exec_next hexec, nextOf_fault_eq_violation i hclean]
  cases i with
  | take | start => rfl
  | nop | work | workW1 | workW2 | workW3 | workW4 | workW5 | workW6 | ready | done | descriptorFor => rfl

/-- Settles O48: the script keeps the mark it began with, and it began with none. -/
theorem contractKeepingRunHasNoFault : Obligations.ContractKeepingRunHasNoFault :=
  fun _ _ _ hkeeps hclean hrun => (runScript_fault_of_keepsContract hkeeps hrun).trans hclean

end Sys2Proof.Machine
end

section
/-! The reset state and the reset input (R32, R137, R138): the reset state is an idle block, and a step with the reset
input high is `assertReset`, whatever command the sample presents with it. -/

namespace Sys2Proof.Machine

/-- After reset no transmission is in progress and the zero byte is ready (R32, R108). -/
theorem idleBlock_reset : IdleBlock State.reset := ⟨rfl, rfl, rfl, rfl, rfl, rfl, rfl⟩

/-- Settles O10: the reset state is an idle block, whose TAKE asks for a byte, which W4 completes. -/
theorem resetStateBehaviour : Obligations.ResetStateBehaviour := by
  have hidle := idleBlock_reset
  have hready : selectAction State.reset = .w1 := selectAction_w1.mpr hidle.needed
  have htaken : selectAction { State.reset with needed := 8, trace := [.byte 0x00 true] } = .w4 :=
    selectAction_w4.mpr ⟨(by decide : (8 : BitVec 4) ≠ 0), hidle.prem, hidle.alen, hidle.zlen⟩
  refine ⟨exec_of_selectAction rfl hready, exec_eq .nop _, hready, exec_eq .ready _, exec_eq .done _, ?take, htaken,
    exec_of_selectAction rfl htaken⟩
  case take => rw [exec_eq, nextOf, takeByte_of_idleBlock hidle]; rfl

/-- A step on a presented sample with the reset input high is the reset, with that sample consumed (R137); the sample's
command is not executed (log entry 5). -/
theorem step_of_reset {s : State} {p : PortSample} {rest : List PortSample} (hinput : s.input = p :: rest)
    (hreset : p.reset = true) : step s = .next (assertReset { s with input := rest }) := by
  simp [step, fetch_cons hinput, hreset]

/-- Settles O11: `assertReset` writes the registers of R32 and a canonical buffer, and keeps the run record. -/
theorem resetInputClearsRegisters : Obligations.ResetInputClearsRegisters := fun s _ rest hinput hreset =>
  ⟨assertReset { s with input := rest }, step_of_reset hinput hreset, rfl, ofMessage_wf _⟩

end Sys2Proof.Machine
end
